-- ==== Sys2Proof/Word.lean ====
section
/-! DEFINITION. The words of the KS-360's wires and counters, and the two plain arithmetic helpers every block uses. -/

namespace Sys2Proof

/-- One byte of a ring or port frame (R3, R186). -/
abbrev Byte := BitVec 8

/-- A 16-bit quantity: masks, sample counters, sequence numbers, the generation (R190). -/
abbrev Word16 := BitVec 16

/-- A 32-bit quantity: time stamps and cycle numbers (R190). -/
abbrev Word32 := BitVec 32

/-- A saturating counter's next value: it stops at its stated maximum (Conventions, "Counters"). -/
def bump (top n : Nat) : Nat := min top (n + 1)

/-- A countdown one millisecond later. A countdown at 0 waits there for its expiry to be taken. -/
def countDown (c : Option Nat) : Option Nat := c.map (· - 1)

end Sys2Proof
end

