-- ==== Sys2Proof/Config.lean ====
section
/-! DEFINITION. What the spec leaves open as a value (free, without a body), and the fixed sizes of the part. -/

namespace Sys2Proof.Config

/-- FREE VALUE (log 7). Which of the 63,885 codes outside −40.0 to +125.0 °C a none temperature is sent as. The spec
says only that a none reading lies outside that range (Conventions, R32). -/
opaque noneTemperatureIndex : Nat

/-- FREE VALUE (log 8). The n-th choice among several channels that made one zone change in one delivery (R138
names "the channel"). -/
opaque freeChoice : Nat → Nat

/-- Cells in the cell table (R28). -/
def cellCount : Nat := 320

/-- Sensors in the temperature table (R29). -/
def sensorCount : Nat := 80

/-- Records the journal holds (R197). -/
def journalDepth : Nat := 32

/-- The answer timeout of a ring attempt, in ms (R14). -/
def answerTimeout : Nat := 2

/-- The gap countdown of a port receiver, in ms (R187). -/
def portGap : Nat := 5

/-- The debounce time of ESTOP, in ms (R164). -/
def estopDebounce : Nat := 5

/-- The minute countdown, in ms (R174). -/
def minute : Nat := 60000

/-- The recovery time of cooling health, in ms (R158). -/
def recoveryTime : Nat := 30000

/-- Where a reference age stops, in ms (R29, R124). -/
def referenceAgeTop : Nat := 120000

/-- Where a released-for count stops, in ms (R130). -/
def releasedForTop : Nat := 3600000

/-- The most requests a port's queue holds (R189). -/
def queueDepth : Nat := 2

end Sys2Proof.Config
end

