-- ==== Sys2Proof/Syntax.lean ====
section
/-! DEFINITION. The commands of the KS-360: one constructor of `Instr` for each row of spec/opcode_table.json, with
the operands the row's rule gives it. A request's operands are its payload fields as sent (R191). -/

namespace Sys2Proof

/-- The three controller ports (00_scope.md, "The three ports"). -/
inductive PortId | site | converter | station
  deriving DecidableEq, Repr

/-- The four fire zones (Conventions, "Numbering"). -/
inductive Zone | z1 | z2 | z3 | z4
  deriving DecidableEq, Repr

/-- The part's two ring ports (R1). -/
inductive RingPort | out | ret
  deriving DecidableEq, Repr

/-- The ten discrete inputs (section 8.1). A level is `true` for the first level of the section's table. -/
inductive Input
  | negAux | posAux | estop | feederClosed | door | holdSwitch | agentReady | flowOk | chillerFault | damperClosed
  deriving DecidableEq, Repr

/-- One thing for each discrete input, in the order of section 8.1. -/
structure PerInput (α : Type) where
  negAux : α
  posAux : α
  estop : α
  feederClosed : α
  door : α
  holdSwitch : α
  agentReady : α
  flowOk : α
  chillerFault : α
  damperClosed : α
  deriving DecidableEq, Repr

/-- What three sensors read at one moment, before R170 and R171 saturate it: 0.1 A, 0.1 V, 0.1 V. -/
structure LineMeasurement where
  current : Int
  stringVoltage : Int
  linkVoltage : Int
  deriving DecidableEq, Repr

/-- The fields of COOLING_OVERRIDE after its action, as sent (R154). -/
structure OverrideFields where
  rackFans : Byte
  pump : Byte
  exhaust : Byte
  condenser : Byte
  chiller : Byte
  heater : Byte
  dampers : Byte
  duration : Byte
  deriving DecidableEq, Repr

/-- The commands. A request's first operand is the port that sends it. Where one request code has two rows (an action
or a mode tells them apart), the second row's code is in its name, and the first row carries the action or mode byte,
so that a byte outside the values is a command too and gets its OUT_OF_RANGE (log 29). -/
inductive Instr
  /-- POWER_ON (R199): the levels at the terminals and the line sample taken at the start. -/
  | powerOn (raw : PerInput Bool) (first : LineMeasurement)
  /-- RESTART (R183), the request. -/
  | restart (p : PortId)
  /-- RESTART_TAKEN (R183), with the line sample taken at the start. -/
  | restartTaken (first : LineMeasurement)
  /-- PERIOD_BOUNDARY (R16). -/
  | periodBoundary
  /-- RING_FRAME_RECEIVED (R14): the bytes that arrived at a ring port. -/
  | ringFrameReceived (at_ : RingPort) (bytes : List Byte)
  /-- RING_FRAME_ABORT (R13): the bytes that arrived, and then two idle character times. -/
  | ringFrameAbort (at_ : RingPort) (bytes : List Byte)
  /-- RING_ANSWER_TIMEOUT (R14): the bytes that arrived, and then the 2 ms run out. -/
  | ringAnswerTimeout (at_ : RingPort) (bytes : List Byte)
  /-- CLEAR_COUNTDOWN_EXPIRY (R132). -/
  | clearCountdownExpiry (z : Zone)
  /-- SINGLE_SOURCE_EXPIRY (R133). -/
  | singleSourceExpiry (z : Zone)
  /-- RELEASE_COUNTDOWN_EXPIRY (R136). -/
  | releaseCountdownExpiry (z : Zone)
  /-- INPUT_EDGE (R164): the raw level after the edge. -/
  | inputEdge (i : Input) (level : Bool)
  /-- DEBOUNCE_EXPIRY (R164). -/
  | debounceExpiry (i : Input)
  /-- CONFIRM_COUNTDOWN_EXPIRY (R111). -/
  | confirmCountdownExpiry
  /-- PRECHARGE_TIMEOUT (R99). -/
  | prechargeTimeout
  /-- SHED_TIMEOUT (R104). -/
  | shedTimeout
  /-- GRID_HOLD_EXPIRY (R92). -/
  | gridHoldExpiry
  /-- VOTE_EXPIRY (R115): the port whose vote runs out. -/
  | voteExpiry (p : PortId)
  /-- FLOW_COUNTDOWN_EXPIRY (R156). -/
  | flowCountdownExpiry
  /-- RECOVERY_COUNTDOWN_EXPIRY (R158). -/
  | recoveryCountdownExpiry
  /-- OVERRIDE_EXPIRY (R155). -/
  | overrideExpiry
  /-- MINUTE_TICK (R174). -/
  | minuteTick
  /-- LINE_SAMPLE (R169). -/
  | lineSample (m : LineMeasurement)
  /-- COOLANT_SAMPLE (R169): supply and return in 0.1 °C, or an open or shorted probe (R171). -/
  | coolantSample (supply return_ : Option Int)
  /-- PORT_FRAME_RECEIVED (R187): the bytes that arrived at a controller port. -/
  | portFrameReceived (p : PortId) (bytes : List Byte)
  /-- PORT_GAP_TIMEOUT (R187): the bytes that arrived, and then the 5 ms gap. -/
  | portGapTimeout (p : PortId) (bytes : List Byte)
  /-- ANSWER_SENT (R189). -/
  | answerSent (p : PortId)
  /-- UNKNOWN_REQUEST (R188). -/
  | unknownRequest (p : PortId) (code : Byte) (payload : List Byte)
  /-- READ_STATE (R190). -/
  | readState (p : PortId)
  /-- READ_NODES (R190). -/
  | readNodes (p : PortId) (first count : Byte)
  /-- READ_CELLS (R47). -/
  | readCells (p : PortId) (start : Word16) (count : Byte)
  /-- READ_TEMPS (R47). -/
  | readTemps (p : PortId) (start : Word16) (count : Byte)
  /-- READ_ENVELOPE (R81). -/
  | readEnvelope (p : PortId)
  /-- READ_CONNECTION (R118). -/
  | readConnection (p : PortId)
  /-- READ_ZONES (R144). -/
  | readZones (p : PortId)
  /-- READ_CHANNELS (R144). -/
  | readChannels (p : PortId) (first count : Byte)
  /-- READ_INPUTS (R175). -/
  | readInputs (p : PortId)
  /-- READ_COOLING (R160). -/
  | readCooling (p : PortId)
  /-- READ_JOURNAL (R198). -/
  | readJournal (p : PortId)
  /-- NOTICE_MASK (R194). -/
  | noticeMask (p : PortId) (set : Word16)
  /-- ACK (R195). -/
  | ack (p : PortId) (set : Word16)
  /-- SET_SETTING (R185): group, item, index and the value's bytes. -/
  | setSetting (p : PortId) (group item index : Byte) (value : List Byte)
  /-- ENTER_RUN (R177). -/
  | enterRun (p : PortId)
  /-- ENTER_SETUP (R179). -/
  | enterSetup (p : PortId)
  /-- ENUMERATE (R184). -/
  | enumerate (p : PortId)
  /-- SLEEP (R180). -/
  | sleep (p : PortId)
  /-- WAKE (R181). -/
  | wake (p : PortId)
  /-- MASK (R48), with the action byte as sent. -/
  | mask (p : PortId) (target : Byte) (first : Word16) (count action : Byte)
  /-- UNMASK (R49). -/
  | unmask (p : PortId) (target : Byte) (first : Word16) (count : Byte)
  /-- SET_WATCH_FIXED (R21), with the mode byte as sent. -/
  | setWatchFixed (p : PortId) (window mode address : Byte)
  /-- SET_WATCH_AUTO (R21). -/
  | setWatchAuto (p : PortId) (window : Byte)
  /-- BALANCE (R52): the pairs of a cell and a number of minutes. -/
  | balance (p : PortId) (pairs : List (Word16 × Word16))
  /-- COOLING_OVERRIDE_SET (R154), with the action byte as sent. -/
  | coolingOverrideSet (p : PortId) (action : Byte) (fields : OverrideFields)
  /-- COOLING_OVERRIDE_CANCEL (R155). -/
  | coolingOverrideCancel (p : PortId)
  /-- ENERGY_PERMIT_GRANT (R90), with the action byte as sent. -/
  | energyPermitGrant (p : PortId) (action : Byte)
  /-- ENERGY_PERMIT_WITHDRAW (R90). -/
  | energyPermitWithdraw (p : PortId)
  /-- GRID_PERMIT_GRANT (R91), with the action byte as sent. -/
  | gridPermitGrant (p : PortId) (action : Byte) (hold : Word16)
  /-- GRID_PERMIT_WITHDRAW (R92). -/
  | gridPermitWithdraw (p : PortId) (hold : Word16)
  /-- CLEAR_LOCKOUT (R114). -/
  | clearLockout (p : PortId)
  /-- CLOSE (R95, R96). -/
  | close (p : PortId) (marker : Byte)
  /-- OPEN (R103). -/
  | openRequest (p : PortId) (marker : Byte)
  /-- REMOTE_TRIP (R109). -/
  | remoteTrip (p : PortId) (marker : Byte)
  /-- HOLD (R141). -/
  | hold (p : PortId) (zone : Byte)
  /-- HOLD_RELEASE (R141). -/
  | holdRelease (p : PortId) (zone : Byte)
  /-- ABORT (R142). -/
  | abort (p : PortId) (zone : Byte)
  /-- RESET_ZONE (R143). -/
  | resetZone (p : PortId) (zone : Byte)
  /-- RING_REQUEST_SENT (R14). -/
  | ringRequestSent
  deriving DecidableEq, Repr

end Sys2Proof
end

