-- ==== Sys2Proof/Machine/Types.lean ====
section
/-! DEFINITION. The records the ten blocks hold, with the spec's names for their fields and values. -/

namespace Sys2Proof.Machine

/-- One thing for each zone. -/
structure PerZone (α : Type) where
  z1 : α
  z2 : α
  z3 : α
  z4 : α
  deriving DecidableEq, Repr

/-- One thing for each controller port. -/
structure PerPort (α : Type) where
  site : α
  converter : α
  station : α
  deriving DecidableEq, Repr

/-! ## Ring Controller (chapter 1) -/

/-- Ring state (section 1.3). -/
inductive RingState | enumerating | closed | split | severed
  deriving DecidableEq, Repr

/-- Last enumeration result (R5). -/
inductive EnumResult | ok | openRing | corrupt | tooMany | badDescriptor
  deriving DecidableEq, Repr

/-- A node's kind with its counts (R12): cells and sensors of a CSN, channels of a DTN. -/
inductive NodeKind
  | csn (cells sensors : Nat)
  | dtn (channels : Nat)
  deriving DecidableEq, Repr

/-- A node's direction (R12). -/
inductive Direction | out | ret | unknown
  deriving DecidableEq, Repr

/-- Node status of the latest good SCAN answer (R12, R25). -/
structure NodeStatus where
  converterFault : Bool
  bleedActive : Word16
  deriving DecidableEq, Repr

/-- A directory entry (R12). -/
structure DirEntry where
  address : Nat
  kind : NodeKind
  zone : Option Zone
  direction : Direction
  failures : Nat
  crcErrors : Nat
  timeouts : Nat
  lastCounter : Option Word16
  status : Option NodeStatus
  deriving DecidableEq, Repr

/-- The two watch windows (R20). -/
inductive WindowId | a | b
  deriving DecidableEq, Repr

inductive WatchMode | auto | fixed
  deriving DecidableEq, Repr

/-- A watch window (R20). -/
structure Window where
  mode : WatchMode
  chosen : Option Nat
  current : Option Nat
  deriving DecidableEq, Repr

/-- What an attempt is for: an enumeration attempt, a TOKEN slot, or a node slot. -/
inductive Job
  | enumerate
  | token
  | scan (address : Nat)
  | detect (address : Nat)
  deriving DecidableEq, Repr

/-- A slot of a cycle's list (R17). -/
inductive Slot
  | token
  | scan (address : Nat)
  | detect (address : Nat)
  | rotation
  deriving DecidableEq, Repr

/-- A ring frame without its delimiter, length and check (R3); `kind` carries the answer flag in bit 7. -/
structure RingFrame where
  kind : Byte
  address : Byte
  payload : List Byte
  deriving DecidableEq, Repr

/-- Why an attempt failed (R13, R14). -/
inductive AttemptFailure | crc | length | shape | unanswered | timeout
  deriving DecidableEq, Repr

/-- An attempt in flight (R1, R13 to R15, R19). The receiver is in HUNT when `rx` is absent, and otherwise in
RECEIVING with the bytes taken after the delimiter. The timeout is absent until the request frame has been sent.
`retryLeft` says that the repeat of R15 has not been made; the retry setting is read when the attempt fails. -/
structure Attempt where
  job : Job
  frame : RingFrame
  sentFrom : RingPort
  listensAt : RingPort
  retryLeft : Bool
  fallback : Option RingPort
  rx : Option (List Byte)
  timeout : Option Nat
  deriving DecidableEq, Repr

/-- A ring cycle in flight: the slots still to be reached, the CSNs rotation has visited (R23), and whether the cycle
started in DORMANT (R42). -/
structure Cycle where
  slots : List Slot
  visited : List Nat
  dormant : Bool
  deriving DecidableEq, Repr

/-- The Ring Controller (R5, R12, R16, R20). -/
structure Ring where
  state : RingState
  lastResult : Option EnumResult
  enumeratePending : Bool
  overruns : Nat
  tokenLost : Bool
  nodeAnswered : Bool
  windowA : Window
  windowB : Window
  rotation : Option Nat
  directory : List DirEntry
  countdown : Nat
  startPending : Bool
  cycle : Option Cycle
  attempt : Option Attempt
  deriving DecidableEq, Repr

/-! ## Record Unit (chapter 2) -/

inductive Condition | noneYet | fresh | stale | lost
  deriving DecidableEq, Repr

inductive LimitFlag | noFlag | over | under
  deriving DecidableEq, Repr

/-- A cell record (R28). A reading that is none, and a filtered value that is absent, are `none`. -/
structure Cell where
  populated : Bool
  masked : Bool
  condition : Condition
  primary : Option Nat
  secondary : Option Nat
  filtered : Option Nat
  age : Nat
  sampled : Bool
  mismatchRun : Nat
  agreeRun : Nat
  disagree : Bool
  overRun : Nat
  underRun : Nat
  limit : LimitFlag
  deriving DecidableEq, Repr

/-- A temperature record (R29). -/
structure Sensor where
  populated : Bool
  masked : Bool
  condition : Condition
  reading : Option Int
  age : Nat
  sampled : Bool
  overRun : Nat
  overTemp : Bool
  reference : Option Int
  referenceAge : Nat
  lastRise : Option Int
  thermalEvent : Bool
  deriving DecidableEq, Repr

/-- Counts of records by condition (R45). -/
structure ConditionCounts where
  noneYet : Nat
  fresh : Nat
  stale : Nat
  lost : Nat
  deriving DecidableEq, Repr

/-- The image summary (R45), less the cycle number, time stamp and ring state. -/
structure Summary where
  populatedCells : Nat
  populatedSensors : Nat
  cells : ConditionCounts
  sensors : ConditionCounts
  anyStale : Bool
  anyLost : Bool
  anyDisagree : Bool
  sumMismatch : Bool
  anyLimit : Bool
  thermalNodes : List Nat
  deriving DecidableEq, Repr

/-- The published image (R45). Its records' sampled flags are all clear: the image carries none. -/
structure Image where
  cells : List Cell
  sensors : List Sensor
  cycle : Word32
  stamp : Word32
  ringState : RingState
  summary : Summary
  deriving DecidableEq, Repr

/-- The Record Unit (R28, R29, R44, R45). -/
structure Records where
  cells : List Cell
  sensors : List Sensor
  image : Image
  sumMismatch : Bool
  sumMismatchRun : Nat
  sumAgreeRun : Nat
  deriving DecidableEq, Repr

/-! ## Balance Scheduler (chapter 3) -/

inductive BalanceState | idle | active | suspended
  deriving DecidableEq, Repr

/-- A balance entry (R51). -/
structure BalanceEntry where
  state : BalanceState
  minutes : Nat
  deriving DecidableEq, Repr

/-! ## Envelope Unit (chapter 4) -/

/-- Binding reasons, in R62's order. -/
inductive Reason | voltage | temperature | capStale | capCooling | capDisagree | capZone | ramp | zeroed
  deriving DecidableEq, Repr

/-- Caps in force (R62). -/
structure CapSet where
  stale : Bool
  cooling : Bool
  disagree : Bool
  zone : Bool
  deriving DecidableEq, Repr

/-- One direction's half of the envelope record (R62). -/
structure EnvelopeSide where
  voltageFactor : Nat
  temperatureFactor : Nat
  cap : Nat
  target : Nat
  stored : Nat
  effective : Nat
  reason : Reason
  deriving DecidableEq, Repr

/-- The envelope record (R62). `full` tells FULL from DECREASE. -/
structure Envelope where
  full : Bool
  cycle : Word32
  stamp : Word32
  vmax : Option Nat
  vmin : Option Nat
  tmax : Option Int
  tmin : Option Int
  charge : EnvelopeSide
  discharge : EnvelopeSide
  caps : CapSet
  zeroed : Bool
  generation : Word16
  deriving DecidableEq, Repr

inductive FlowDirection | charge | discharge
  deriving DecidableEq, Repr

/-- The overcurrent record (R82, R87). -/
structure Overcurrent where
  direction : FlowDirection
  sum : Int
  effective : Nat
  limit : Nat
  current : Int
  stamp : Word32
  deriving DecidableEq, Repr

/-- The monitor record (R82). -/
structure Monitor where
  monitoring : Bool
  chargeLimit : Nat
  dischargeLimit : Nat
  chargeSum : Nat
  dischargeSum : Nat
  overcurrent : Option Overcurrent
  deriving DecidableEq, Repr

/-! ## Connection Sequencer (chapter 5) -/

/-- Connection states (section 5.2); `opened` is the spec's OPEN. -/
inductive ConnState | opened | precharging | closing | closed | shedding | opening | lockout
  deriving DecidableEq, Repr

inductive EnergyPermit | withdrawn | granted
  deriving DecidableEq, Repr

inductive GridPermit | lapsed | valid | withdrawn
  deriving DecidableEq, Repr

/-- A request's port, and its marker where it carries one. -/
structure Origin where
  port : PortId
  marker : Option Byte
  deriving DecidableEq, Repr

/-- A journal record's location (R196). -/
inductive Location
  | cell (n : Nat)
  | sensor (n : Nat)
  | channel (n : Nat)
  | node (n : Nat)
  deriving DecidableEq, Repr

/-- Which main contactor (R93). -/
inductive Contactor | neg | pos | both
  deriving DecidableEq, Repr

/-- Trip causes (R106). -/
inductive TripCause
  | energyWithdrawn | gridWithdrawn | gridLapsed | feederOpened
  | cellOver | cellUnder | cellOverTemp | cellLost | ringSevered | overcurrent | auxLost | remoteTrip
  | zoneAlarm | estop
  deriving DecidableEq, Repr

/-- Opening classes, in order of rising severity (R106). A trip's class is SHED, HARD or SEVERE. -/
inductive OpeningClass | request | failure | shed | hard | severe
  deriving DecidableEq, Repr

/-- Failures of a close (R101). -/
inductive CloseFailure | contactorNeg | contactorPos | prechargeTimeout
  deriving DecidableEq, Repr

/-- Why an opening started (R101, R103, R107). -/
inductive OpeningCause
  | openRequest
  | failed (f : CloseFailure)
  | trip (c : TripCause)
  deriving DecidableEq, Repr

/-- The opening record (R93). -/
structure Opening where
  class_ : OpeningClass
  cause : OpeningCause
  origin : Option Origin
  zone : Option Zone
  location : Option Location
  shedTimedOut : Bool
  deriving DecidableEq, Repr

inductive LockoutCause | weld | weldAtStart | zoneAlarm | estop
  deriving DecidableEq, Repr

/-- The lockout record (R93). -/
structure Lockout where
  cause : LockoutCause
  zone : Option Zone
  contactor : Option Contactor
  stamp : Word32
  deriving DecidableEq, Repr

/-- A trip as it reaches the Connection Sequencer (R106). -/
structure Trip where
  cause : TripCause
  origin : Option Origin := none
  zone : Option Zone := none
  location : Option Location := none
  contactor : Option Contactor := none
  deriving DecidableEq, Repr

/-- The last trip (R93), with the contactor of an AUX_LOST (R105). -/
structure LastTrip where
  cause : TripCause
  class_ : OpeningClass
  zone : Option Zone
  location : Option Location
  contactor : Option Contactor
  stamp : Word32
  deriving DecidableEq, Repr

/-- The permit record (R89). The hold remaining is held in ms (log 17). -/
structure Permit where
  energy : EnergyPermit
  grid : GridPermit
  holdRemaining : Option Nat
  holdGranted : Option Nat
  deriving DecidableEq, Repr

/-- The close context (R93). -/
structure CloseContext where
  marker : Byte
  port : PortId
  deriving DecidableEq, Repr

/-- The connection record and the permit record (R89, R93). -/
structure Connection where
  state : ConnState
  permit : Permit
  context : Option CloseContext
  negConfirmed : Option Bool
  precharge : Option Nat
  confirm : Option Nat
  shed : Option Nat
  opening : Option Opening
  lockout : Option Lockout
  siteVote : Option Nat
  stationVote : Option Nat
  lastTrip : Option LastTrip
  deriving DecidableEq, Repr

/-! ## Zone Unit (chapter 6) -/

inductive ChannelKind | offgas | heat | smoke | manual
  deriving DecidableEq, Repr

inductive FaultReason | noAnswerYet | flag | badKind | badValue | nodeFailed
  deriving DecidableEq, Repr

inductive Level | quiet | warn | alarm | call
  deriving DecidableEq, Repr

/-- A detector channel record (R120). Its zone is absent when UNUSED; its health is HEALTHY when `fault` is absent. -/
structure Channel where
  node : Nat
  position : Nat
  kind : Option ChannelKind
  zone : Option Zone
  value : Option Int
  fault : Option FaultReason
  level : Level
  candidate : Option Level
  run : Nat
  reference : Option Int
  referenceAge : Nat
  lastRise : Option Int
  deriving DecidableEq, Repr

inductive ZoneState | normal | preAlarm | alarm | countdown | held | aborted | released
  deriving DecidableEq, Repr

/-- The last release of a zone (R130). -/
structure Release where
  stamp : Word32
  damperClosed : Bool
  deriving DecidableEq, Repr

/-- A zone record (R130), less the Armed field (a FIRE setting) and the Agent line (an output line), held there. -/
structure ZoneRecord where
  state : ZoneState
  degraded : Bool
  blind : Bool
  thermal : Bool
  stationHold : Bool
  countdown : Option Nat
  clearCountdown : Option Nat
  singleSource : Option Nat
  releasedFor : Option Nat
  lastRelease : Option Release
  deriving DecidableEq, Repr

/-- The Zone Unit (R120, R130). -/
structure ZoneUnit where
  channels : List Channel
  zones : PerZone ZoneRecord
  deriving DecidableEq, Repr

/-! ## Thermal Controller (chapter 7) -/

/-- Cooling modes, in R146's order. -/
inductive CoolingMode | idle | cool | heat | exhaust | seal | purge | override
  deriving DecidableEq, Repr

inductive Health | normal | degraded
  deriving DecidableEq, Repr

/-- The override record (R153). -/
structure Override where
  rackFans : Nat
  pump : Nat
  exhaust : Nat
  condenser : Nat
  chiller : Bool
  heater : Bool
  dampers : Bool
  duration : Nat
  remaining : Nat
  deriving DecidableEq, Repr

/-- The Thermal Controller record (R146), less the outputs driven and the coolant temperatures (Line Interface). -/
structure Cooling where
  mode : CoolingMode
  modeEntered : Word32
  tmax : Option Int
  tmin : Option Int
  heatRequest : Bool
  coolRequest : Bool
  purgeLatch : Bool
  demand : Nat
  override : Option Override
  health : Health
  flowCondition : Bool
  chillerCondition : Bool
  supplyCondition : Bool
  flowCountdown : Option Nat
  recovery : Option Nat
  deriving DecidableEq, Repr

/-! ## Line Interface (chapter 8) -/

/-- An input record (R163). -/
structure InputRecord where
  raw : Bool
  debounce : Option Nat
  started : Bool
  live : Bool
  armed : Bool
  latched : Bool
  changed : Bool
  deriving DecidableEq, Repr

/-- A line sample (R169 to R171). -/
structure LineSample where
  current : Int
  stringVoltage : Nat
  linkVoltage : Nat
  saturated : Bool
  deriving DecidableEq, Repr

/-- A coolant sample (R169, R171); a temperature may be none. -/
structure CoolantSample where
  supply : Option Int
  return_ : Option Int
  deriving DecidableEq, Repr

/-- The fifteen output lines (R172). -/
structure Outputs where
  negMain : Bool
  posMain : Bool
  precharge : Bool
  gridPermissive : Bool
  agent : PerZone Bool
  rackFans : Nat
  pump : Nat
  exhaust : Nat
  condenser : Nat
  chillerRun : Bool
  heater : Bool
  dampersOpen : Bool
  deriving DecidableEq, Repr

/-- The Line Interface (R163, R169, R172 to R174). -/
structure Lines where
  inputs : PerInput InputRecord
  sample : LineSample
  coolant : Option CoolantSample
  outputs : Outputs
  timeBase : Word32
  minute : Nat
  deriving DecidableEq, Repr

/-! ## State Unit (chapter 9) -/

inductive OpState | setup | run | dormant
  deriving DecidableEq, Repr

/-- The ENTER_RUN checks (R178). -/
inductive RunCheck
  | ringNotReady | nodeMap | cellNotSeen | chargeTaper | dischargeKnee | tripLevels | tableOrder | freshnessOrder
  | staleBelowRotation | dormantStale | periodShort | thermalBands
  deriving DecidableEq, Repr

/-- Where a RESTART stands (R183, log 23): it takes place when its OK answer has been sent. -/
inductive RestartStage | idle | answered | due
  deriving DecidableEq, Repr

/-! ## Port Unit (chapter 10) -/

/-- Notice causes, in priority order (R192). -/
inductive Notice | fire | trip | connection | permit | envelope | cell | ring | cooling | input | journal
  deriving DecidableEq, Repr

/-- Answer statuses, in code order (R188). -/
inductive Status
  | ok | unknownRequest | badLength | notPermitted | outOfRange | wrongState | refused | already | tooLate
  deriving DecidableEq, Repr

/-- A request frame's code and payload (R186). -/
structure Request where
  code : Byte
  payload : List Byte
  deriving DecidableEq, Repr

/-- What an owner answers: a status and a payload; for REFUSED the first byte is the reason (R186). -/
structure Reply where
  status : Status
  payload : List Byte
  deriving DecidableEq, Repr

/-- An answer frame, less SYNC, LEN and CRC (R186). -/
structure Answer where
  code : Byte
  status : Status
  cause : Nat
  lost : Bool
  payload : List Byte
  deriving DecidableEq, Repr

/-- A port of the Port Unit (chapter 10). The receiver is in HUNT when `rx` is absent. `answer` is the answer being
sent to the head request; the head waits to be handed over while it is absent. -/
structure PortRecord where
  rx : Option (List Byte)
  gap : Option Nat
  dropped : Nat
  queue : List Request
  lost : Bool
  pendingSet : BitVec 10
  enabledSet : BitVec 10
  cursor : Word16
  answer : Option Answer
  deriving DecidableEq, Repr

/-- Journal record kinds, in code order (R196). -/
inductive JournalKind
  | closed | closeFailed | opened | trip | lockout | lockoutCleared | zoneState | agentRelease | opState | ringState
  deriving DecidableEq, Repr

/-- Journal causes (R196). -/
inductive JournalCause
  | trip (c : TripCause)
  | close
  | failed (f : CloseFailure)
  | openRequest
  | shedTimeout
  | weld
  | weldAtStart
  | zone (s : ZoneState)
  | damperOpen
  | opState (o : OpState)
  | restart
  | ring (r : RingState)
  deriving DecidableEq, Repr

/-- A journal record (R196). -/
structure JournalRecord where
  sequence : Word16
  stamp : Word32
  kind : JournalKind
  cause : JournalCause
  origin : Option Origin
  zone : Option Zone
  location : Option Location
  current : Int
  voltage : Nat
  deriving DecidableEq, Repr

/-- The Port Unit (chapter 10). -/
structure PortUnit where
  ports : PerPort PortRecord
  journal : List JournalRecord
  nextSequence : Word16
  deriving DecidableEq, Repr

end Sys2Proof.Machine
end

