-- ==== Sys2Proof/Machine/Access.lean ====
section
/-! DEFINITION. Reading and replacing one member of a per-zone, per-port or per-input family, and the lists of their
names in the spec's order. -/

namespace Sys2Proof

/-- The ten inputs in the order of section 8.1. -/
def Input.all : List Input :=
  [.negAux, .posAux, .estop, .feederClosed, .door, .holdSwitch, .agentReady, .flowOk, .chillerFault, .damperClosed]

def PerInput.get {α : Type} (f : PerInput α) : Input → α
  | .negAux => f.negAux
  | .posAux => f.posAux
  | .estop => f.estop
  | .feederClosed => f.feederClosed
  | .door => f.door
  | .holdSwitch => f.holdSwitch
  | .agentReady => f.agentReady
  | .flowOk => f.flowOk
  | .chillerFault => f.chillerFault
  | .damperClosed => f.damperClosed

def PerInput.set {α : Type} (f : PerInput α) (i : Input) (v : α) : PerInput α :=
  match i with
  | .negAux => { f with negAux := v }
  | .posAux => { f with posAux := v }
  | .estop => { f with estop := v }
  | .feederClosed => { f with feederClosed := v }
  | .door => { f with door := v }
  | .holdSwitch => { f with holdSwitch := v }
  | .agentReady => { f with agentReady := v }
  | .flowOk => { f with flowOk := v }
  | .chillerFault => { f with chillerFault := v }
  | .damperClosed => { f with damperClosed := v }

/-- The family whose member for each input is given by `g`. -/
def PerInput.of {α : Type} (g : Input → α) : PerInput α :=
  ⟨g .negAux, g .posAux, g .estop, g .feederClosed, g .door, g .holdSwitch, g .agentReady, g .flowOk, g .chillerFault,
   g .damperClosed⟩

/-- The four zones, 1 to 4. -/
def Zone.all : List Zone := [.z1, .z2, .z3, .z4]

/-- A zone's number, 1 to 4. -/
def Zone.number : Zone → Nat
  | .z1 => 1
  | .z2 => 2
  | .z3 => 3
  | .z4 => 4

/-- The zone of a number, if it is 1 to 4. -/
def Zone.ofNumber : Nat → Option Zone
  | 1 => some .z1
  | 2 => some .z2
  | 3 => some .z3
  | 4 => some .z4
  | _ => none

/-- A port's code in journal records and rights (R196): 1 site, 2 converter, 3 station. -/
def PortId.number : PortId → Nat
  | .site => 1
  | .converter => 2
  | .station => 3

/-- The other end of the ring. -/
def RingPort.other : RingPort → RingPort
  | .out => .ret
  | .ret => .out

namespace Machine

def PerZone.get {α : Type} (f : PerZone α) : Zone → α
  | .z1 => f.z1
  | .z2 => f.z2
  | .z3 => f.z3
  | .z4 => f.z4

def PerZone.set {α : Type} (f : PerZone α) (z : Zone) (v : α) : PerZone α :=
  match z with
  | .z1 => { f with z1 := v }
  | .z2 => { f with z2 := v }
  | .z3 => { f with z3 := v }
  | .z4 => { f with z4 := v }

def PerZone.of {α : Type} (g : Zone → α) : PerZone α := ⟨g .z1, g .z2, g .z3, g .z4⟩

def PerZone.toList {α : Type} (f : PerZone α) : List α := [f.z1, f.z2, f.z3, f.z4]

def PerPort.get {α : Type} (f : PerPort α) : PortId → α
  | .site => f.site
  | .converter => f.converter
  | .station => f.station

def PerPort.set {α : Type} (f : PerPort α) (p : PortId) (v : α) : PerPort α :=
  match p with
  | .site => { f with site := v }
  | .converter => { f with converter := v }
  | .station => { f with station := v }

def PerPort.map {α β : Type} (g : α → β) (f : PerPort α) : PerPort β := ⟨g f.site, g f.converter, g f.station⟩

end Machine
end Sys2Proof
end

