-- ==== Sys2Proof/Machine/Settings.lean ====
section
/-! DEFINITION. The settings record (R176, section 9.6.1): every item with its range, its default and its place in
the request coding of R191. Each item is held in the count unit R191 gives it. -/

namespace Sys2Proof.Machine

/-- Zone of a channel number (MAP group, R121). -/
inductive ChannelZone
  | byNode
  | zone (z : Zone)
  | unused
  deriving DecidableEq, Repr

/-- One point of the derating table (section 4.5): 0.1 °C, and two factors. -/
structure DeratingPoint where
  temperature : Int
  charge : Nat
  discharge : Nat
  deriving DecidableEq, Repr

/-- The RING group (section 9.6.1). -/
structure RingSettings where
  period : Nat
  rotationSlots : Nat
  retry : Bool
  patrolPeriod : Nat
  deriving DecidableEq, Repr

/-- The CELL group (section 9.6.1). -/
structure CellSettings where
  filterShift : Nat
  crossCheck : Nat
  ovTrip : Nat
  uvTrip : Nat
  hysteresis : Nat
  persistence : Nat
  staleLimit : Nat
  lostLimit : Nat
  dormantStale : Nat
  dormantLost : Nat
  hardLimit : Int
  riseWindow : Nat
  eventRise : Int
  eventTemperature : Int
  deriving DecidableEq, Repr

/-- The ENVELOPE group (section 9.6.1). -/
structure EnvelopeSettings where
  ratedCharge : Nat
  ratedDischarge : Nat
  vtaper : Nat
  vceil : Nat
  vfloor : Nat
  vknee : Nat
  staleCap : Nat
  coolingCap : Nat
  disagreeCap : Nat
  preAlarmCap : Nat
  rampRate : Nat
  stepDownRate : Nat
  tolerance : Nat
  excessBudget : Nat
  derating : List DeratingPoint
  deriving DecidableEq, Repr

/-- The CONNECTION group (section 9.6.1). -/
structure ConnectionSettings where
  prechargeTime : Nat
  confirmTime : Nat
  prechargeTolerance : Nat
  breakCurrent : Nat
  shedTimeout : Nat
  voteWindow : Nat
  debounceTime : Nat
  deriving DecidableEq, Repr

/-- The FIRE group (section 9.6.1). -/
structure FireSettings where
  releaseDelay : Nat
  clearTime : Nat
  singleSourceDelay : Nat
  persistence : Nat
  offgasWarn : Int
  offgasAlarm : Int
  heatRiseWindow : Nat
  arming : PerZone Bool
  deriving DecidableEq, Repr

/-- The BALANCE group (section 9.6.1). -/
structure BalanceSettings where
  nodeCap : Nat
  bleedFloor : Nat
  bleedTemperature : Int
  deriving DecidableEq, Repr

/-- The COOLING group (section 9.6.1). -/
structure CoolingSettings where
  heatOn : Int
  heatOff : Int
  coolOn : Int
  coolOff : Int
  coolSetPoint : Int
  gain : Nat
  minimumLevel : Nat
  fallbackLevel : Nat
  heatLevel : Nat
  purgeDelay : Nat
  flowTimeout : Nat
  supplyLimit : Int
  deriving DecidableEq, Repr

/-- The MAP group (section 9.6.1): 24 node map entries, 24 zones of CSNs, 32 zones of channels. -/
structure MapSettings where
  nodes : List (Option NodeKind)
  csnZones : List Zone
  channelZones : List ChannelZone
  deriving DecidableEq, Repr

/-- The settings record (R176). -/
structure Settings where
  ring : RingSettings
  map : MapSettings
  cell : CellSettings
  envelope : EnvelopeSettings
  connection : ConnectionSettings
  fire : FireSettings
  balance : BalanceSettings
  cooling : CoolingSettings
  deriving DecidableEq, Repr

/-- The default derating table (section 4.5). -/
def defaultDerating : List DeratingPoint :=
  [⟨-200, 0, 256⟩, ⟨0, 0, 768⟩, ⟨100, 512, 1024⟩, ⟨250, 1024, 1024⟩, ⟨450, 1024, 1024⟩, ⟨550, 0, 512⟩]

/-- Every item at its default (section 9.6.1). -/
def Settings.default : Settings where
  ring :=
    { period := 200, rotationSlots := 2, retry := true, patrolPeriod := 10 }
  map :=
    { nodes := List.replicate 24 none, csnZones := List.replicate 24 .z1
      channelZones := List.replicate 32 .byNode }
  cell :=
    { filterShift := 3, crossCheck := 150, ovTrip := 36500, uvTrip := 28000, hysteresis := 500
      persistence := 3, staleLimit := 10, lostLimit := 30, dormantStale := 40, dormantLost := 120
      hardLimit := 600, riseWindow := 30, eventRise := 50, eventTemperature := 750 }
  envelope :=
    { ratedCharge := 2800, ratedDischarge := 3200, vtaper := 34500, vceil := 36000, vfloor := 29000
      vknee := 31000, staleCap := 512, coolingCap := 512, disagreeCap := 768, preAlarmCap := 512
      rampRate := 500, stepDownRate := 4000, tolerance := 5, excessBudget := 20
      derating := defaultDerating }
  connection :=
    { prechargeTime := 8, confirmTime := 150, prechargeTolerance := 100, breakCurrent := 100
      shedTimeout := 3000, voteWindow := 120, debounceTime := 20 }
  fire :=
    { releaseDelay := 30, clearTime := 120, singleSourceDelay := 30, persistence := 2, offgasWarn := 50
      offgasAlarm := 200, heatRiseWindow := 30, arming := ⟨false, false, false, false⟩ }
  balance :=
    { nodeCap := 6, bleedFloor := 33000, bleedTemperature := 500 }
  cooling :=
    { heatOn := 50, heatOff := 100, coolOn := 300, coolOff := 270, coolSetPoint := 250, gain := 30
      minimumLevel := 3, fallbackLevel := 10, heatLevel := 6, purgeDelay := 600, flowTimeout := 10
      supplyLimit := 350 }

/-- The items that have no index and a 4-byte value (R191). -/
inductive Item
  | ringPeriod | rotationSlots | retry | patrolPeriod | filterShift | crossCheck | ovTrip | uvTrip
  | hysteresis | persistence | staleLimit | lostLimit | dormantStale | dormantLost | hardLimit | riseWindow
  | eventRise | eventTemperature | ratedCharge | ratedDischarge | vtaper | vceil | vfloor | vknee | staleCap
  | coolingCap | disagreeCap | preAlarmCap | rampRate | stepDownRate | tolerance | excessBudget
  | prechargeTime | confirmTime | prechargeTolerance | breakCurrent | shedTimeout | voteWindow | debounceTime
  | releaseDelay | clearTime | singleSourceDelay | detectorPersistence | offgasWarn | offgasAlarm
  | heatRiseWindow | nodeCap | bleedFloor | bleedTemperature | heatOn | heatOff | coolOn | coolOff
  | coolSetPoint | gain | minimumLevel | fallbackLevel | heatLevel | purgeDelay | flowTimeout | supplyLimit
  deriving DecidableEq, Repr

/-- The item of a group code and an item code (R191, the table of settings). -/
def Item.ofCode : Nat → Nat → Option Item
  | 1, 1 => some .ringPeriod
  | 1, 2 => some .rotationSlots
  | 1, 3 => some .retry
  | 1, 4 => some .patrolPeriod
  | 3, 1 => some .filterShift
  | 3, 2 => some .crossCheck
  | 3, 3 => some .ovTrip
  | 3, 4 => some .uvTrip
  | 3, 5 => some .hysteresis
  | 3, 6 => some .persistence
  | 3, 7 => some .staleLimit
  | 3, 8 => some .lostLimit
  | 3, 9 => some .dormantStale
  | 3, 10 => some .dormantLost
  | 3, 11 => some .hardLimit
  | 3, 12 => some .riseWindow
  | 3, 13 => some .eventRise
  | 3, 14 => some .eventTemperature
  | 4, 1 => some .ratedCharge
  | 4, 2 => some .ratedDischarge
  | 4, 3 => some .vtaper
  | 4, 4 => some .vceil
  | 4, 5 => some .vfloor
  | 4, 6 => some .vknee
  | 4, 8 => some .staleCap
  | 4, 9 => some .coolingCap
  | 4, 10 => some .disagreeCap
  | 4, 11 => some .preAlarmCap
  | 4, 12 => some .rampRate
  | 4, 13 => some .stepDownRate
  | 4, 14 => some .tolerance
  | 4, 15 => some .excessBudget
  | 5, 1 => some .prechargeTime
  | 5, 2 => some .confirmTime
  | 5, 3 => some .prechargeTolerance
  | 5, 4 => some .breakCurrent
  | 5, 5 => some .shedTimeout
  | 5, 6 => some .voteWindow
  | 5, 7 => some .debounceTime
  | 6, 2 => some .releaseDelay
  | 6, 3 => some .clearTime
  | 6, 4 => some .singleSourceDelay
  | 6, 5 => some .detectorPersistence
  | 6, 6 => some .offgasWarn
  | 6, 7 => some .offgasAlarm
  | 6, 8 => some .heatRiseWindow
  | 7, 1 => some .nodeCap
  | 7, 2 => some .bleedFloor
  | 7, 3 => some .bleedTemperature
  | 8, 1 => some .heatOn
  | 8, 2 => some .heatOff
  | 8, 3 => some .coolOn
  | 8, 4 => some .coolOff
  | 8, 5 => some .coolSetPoint
  | 8, 6 => some .gain
  | 8, 7 => some .minimumLevel
  | 8, 8 => some .fallbackLevel
  | 8, 9 => some .heatLevel
  | 8, 10 => some .purgeDelay
  | 8, 11 => some .flowTimeout
  | 8, 12 => some .supplyLimit
  | _, _ => none

/-- An item's range and step (section 9.6.1), in the count unit of R191: lowest, highest, step. -/
def Item.range : Item → Int × Int × Int
  | .ringPeriod => (50, 2000, 10)
  | .rotationSlots => (1, 8, 1)
  | .retry => (0, 1, 1)
  | .patrolPeriod => (1, 60, 1)
  | .filterShift => (0, 5, 1)
  | .crossCheck => (10, 1000, 1)
  | .ovTrip => (34000, 40000, 1)
  | .uvTrip => (20000, 32000, 1)
  | .hysteresis => (10, 2000, 1)
  | .persistence => (1, 8, 1)
  | .staleLimit => (2, 255, 1)
  | .lostLimit => (3, 255, 1)
  | .dormantStale => (2, 255, 1)
  | .dormantLost => (3, 255, 1)
  | .hardLimit => (400, 800, 1)
  | .riseWindow => (10, 120, 1)
  | .eventRise => (10, 200, 1)
  | .eventTemperature => (500, 1000, 1)
  | .ratedCharge => (0, 20000, 1)
  | .ratedDischarge => (0, 20000, 1)
  | .vtaper => (30000, 38000, 1)
  | .vceil => (30000, 38000, 1)
  | .vfloor => (25000, 34000, 1)
  | .vknee => (25000, 34000, 1)
  | .staleCap => (0, 1024, 1)
  | .coolingCap => (0, 1024, 1)
  | .disagreeCap => (0, 1024, 1)
  | .preAlarmCap => (0, 1024, 1)
  | .rampRate => (10, 5000, 1)
  | .stepDownRate => (100, 20000, 1)
  | .tolerance => (0, 20, 1)
  | .excessBudget => (1, 500, 1)
  | .prechargeTime => (1, 30, 1)
  | .confirmTime => (20, 500, 1)
  | .prechargeTolerance => (10, 500, 1)
  | .breakCurrent => (10, 1000, 1)
  | .shedTimeout => (500, 10000, 1)
  | .voteWindow => (10, 600, 1)
  | .debounceTime => (5, 100, 1)
  | .releaseDelay => (0, 120, 1)
  | .clearTime => (10, 600, 1)
  | .singleSourceDelay => (5, 300, 1)
  | .detectorPersistence => (1, 4, 1)
  | .offgasWarn => (10, 5000, 1)
  | .offgasAlarm => (10, 5000, 1)
  | .heatRiseWindow => (10, 120, 1)
  | .nodeCap => (1, 16, 1)
  | .bleedFloor => (30000, 36000, 1)
  | .bleedTemperature => (300, 700, 1)
  | .heatOn => (-300, 300, 1)
  | .heatOff => (-300, 350, 1)
  | .coolOn => (150, 500, 1)
  | .coolOff => (100, 500, 1)
  | .coolSetPoint => (100, 450, 1)
  | .gain => (1, 60, 1)
  | .minimumLevel => (0, 15, 1)
  | .fallbackLevel => (0, 15, 1)
  | .heatLevel => (0, 15, 1)
  | .purgeDelay => (60, 3000, 1)
  | .flowTimeout => (2, 60, 1)
  | .supplyLimit => (200, 600, 1)

/-- The value an item holds. -/
def Item.get (s : Settings) : Item → Int
  | .ringPeriod => s.ring.period
  | .rotationSlots => s.ring.rotationSlots
  | .retry => if s.ring.retry then 1 else 0
  | .patrolPeriod => s.ring.patrolPeriod
  | .filterShift => s.cell.filterShift
  | .crossCheck => s.cell.crossCheck
  | .ovTrip => s.cell.ovTrip
  | .uvTrip => s.cell.uvTrip
  | .hysteresis => s.cell.hysteresis
  | .persistence => s.cell.persistence
  | .staleLimit => s.cell.staleLimit
  | .lostLimit => s.cell.lostLimit
  | .dormantStale => s.cell.dormantStale
  | .dormantLost => s.cell.dormantLost
  | .hardLimit => s.cell.hardLimit
  | .riseWindow => s.cell.riseWindow
  | .eventRise => s.cell.eventRise
  | .eventTemperature => s.cell.eventTemperature
  | .ratedCharge => s.envelope.ratedCharge
  | .ratedDischarge => s.envelope.ratedDischarge
  | .vtaper => s.envelope.vtaper
  | .vceil => s.envelope.vceil
  | .vfloor => s.envelope.vfloor
  | .vknee => s.envelope.vknee
  | .staleCap => s.envelope.staleCap
  | .coolingCap => s.envelope.coolingCap
  | .disagreeCap => s.envelope.disagreeCap
  | .preAlarmCap => s.envelope.preAlarmCap
  | .rampRate => s.envelope.rampRate
  | .stepDownRate => s.envelope.stepDownRate
  | .tolerance => s.envelope.tolerance
  | .excessBudget => s.envelope.excessBudget
  | .prechargeTime => s.connection.prechargeTime
  | .confirmTime => s.connection.confirmTime
  | .prechargeTolerance => s.connection.prechargeTolerance
  | .breakCurrent => s.connection.breakCurrent
  | .shedTimeout => s.connection.shedTimeout
  | .voteWindow => s.connection.voteWindow
  | .debounceTime => s.connection.debounceTime
  | .releaseDelay => s.fire.releaseDelay
  | .clearTime => s.fire.clearTime
  | .singleSourceDelay => s.fire.singleSourceDelay
  | .detectorPersistence => s.fire.persistence
  | .offgasWarn => s.fire.offgasWarn
  | .offgasAlarm => s.fire.offgasAlarm
  | .heatRiseWindow => s.fire.heatRiseWindow
  | .nodeCap => s.balance.nodeCap
  | .bleedFloor => s.balance.bleedFloor
  | .bleedTemperature => s.balance.bleedTemperature
  | .heatOn => s.cooling.heatOn
  | .heatOff => s.cooling.heatOff
  | .coolOn => s.cooling.coolOn
  | .coolOff => s.cooling.coolOff
  | .coolSetPoint => s.cooling.coolSetPoint
  | .gain => s.cooling.gain
  | .minimumLevel => s.cooling.minimumLevel
  | .fallbackLevel => s.cooling.fallbackLevel
  | .heatLevel => s.cooling.heatLevel
  | .purgeDelay => s.cooling.purgeDelay
  | .flowTimeout => s.cooling.flowTimeout
  | .supplyLimit => s.cooling.supplyLimit

/-- The settings with one item replaced. -/
def Item.put (s : Settings) (v : Int) : Item → Settings
  | .ringPeriod => { s with ring.period := v.toNat }
  | .rotationSlots => { s with ring.rotationSlots := v.toNat }
  | .retry => { s with ring.retry := (v == 1) }
  | .patrolPeriod => { s with ring.patrolPeriod := v.toNat }
  | .filterShift => { s with cell.filterShift := v.toNat }
  | .crossCheck => { s with cell.crossCheck := v.toNat }
  | .ovTrip => { s with cell.ovTrip := v.toNat }
  | .uvTrip => { s with cell.uvTrip := v.toNat }
  | .hysteresis => { s with cell.hysteresis := v.toNat }
  | .persistence => { s with cell.persistence := v.toNat }
  | .staleLimit => { s with cell.staleLimit := v.toNat }
  | .lostLimit => { s with cell.lostLimit := v.toNat }
  | .dormantStale => { s with cell.dormantStale := v.toNat }
  | .dormantLost => { s with cell.dormantLost := v.toNat }
  | .hardLimit => { s with cell.hardLimit := v }
  | .riseWindow => { s with cell.riseWindow := v.toNat }
  | .eventRise => { s with cell.eventRise := v }
  | .eventTemperature => { s with cell.eventTemperature := v }
  | .ratedCharge => { s with envelope.ratedCharge := v.toNat }
  | .ratedDischarge => { s with envelope.ratedDischarge := v.toNat }
  | .vtaper => { s with envelope.vtaper := v.toNat }
  | .vceil => { s with envelope.vceil := v.toNat }
  | .vfloor => { s with envelope.vfloor := v.toNat }
  | .vknee => { s with envelope.vknee := v.toNat }
  | .staleCap => { s with envelope.staleCap := v.toNat }
  | .coolingCap => { s with envelope.coolingCap := v.toNat }
  | .disagreeCap => { s with envelope.disagreeCap := v.toNat }
  | .preAlarmCap => { s with envelope.preAlarmCap := v.toNat }
  | .rampRate => { s with envelope.rampRate := v.toNat }
  | .stepDownRate => { s with envelope.stepDownRate := v.toNat }
  | .tolerance => { s with envelope.tolerance := v.toNat }
  | .excessBudget => { s with envelope.excessBudget := v.toNat }
  | .prechargeTime => { s with connection.prechargeTime := v.toNat }
  | .confirmTime => { s with connection.confirmTime := v.toNat }
  | .prechargeTolerance => { s with connection.prechargeTolerance := v.toNat }
  | .breakCurrent => { s with connection.breakCurrent := v.toNat }
  | .shedTimeout => { s with connection.shedTimeout := v.toNat }
  | .voteWindow => { s with connection.voteWindow := v.toNat }
  | .debounceTime => { s with connection.debounceTime := v.toNat }
  | .releaseDelay => { s with fire.releaseDelay := v.toNat }
  | .clearTime => { s with fire.clearTime := v.toNat }
  | .singleSourceDelay => { s with fire.singleSourceDelay := v.toNat }
  | .detectorPersistence => { s with fire.persistence := v.toNat }
  | .offgasWarn => { s with fire.offgasWarn := v }
  | .offgasAlarm => { s with fire.offgasAlarm := v }
  | .heatRiseWindow => { s with fire.heatRiseWindow := v.toNat }
  | .nodeCap => { s with balance.nodeCap := v.toNat }
  | .bleedFloor => { s with balance.bleedFloor := v.toNat }
  | .bleedTemperature => { s with balance.bleedTemperature := v }
  | .heatOn => { s with cooling.heatOn := v }
  | .heatOff => { s with cooling.heatOff := v }
  | .coolOn => { s with cooling.coolOn := v }
  | .coolOff => { s with cooling.coolOff := v }
  | .coolSetPoint => { s with cooling.coolSetPoint := v }
  | .gain => { s with cooling.gain := v.toNat }
  | .minimumLevel => { s with cooling.minimumLevel := v.toNat }
  | .fallbackLevel => { s with cooling.fallbackLevel := v.toNat }
  | .heatLevel => { s with cooling.heatLevel := v.toNat }
  | .purgeDelay => { s with cooling.purgeDelay := v.toNat }
  | .flowTimeout => { s with cooling.flowTimeout := v.toNat }
  | .supplyLimit => { s with cooling.supplyLimit := v }

/-- A value is inside an item's range and on its step (R185, third check). -/
def Item.allows (i : Item) (v : Int) : Bool :=
  i.range.1 ≤ v && v ≤ i.range.2.1 && v % i.range.2.2 == 0

/-- Whether a group's items are written in every operating state: COOLING only (R185, second check). -/
def groupAnyState (group : Nat) : Bool := group == 8

end Sys2Proof.Machine
end

