-- ==== Sys2Proof/Machine/Image.lean ====
section
/-! DEFINITION. Numbering of cells and sensors through the node directory (R30), and the image summary (R45). -/

namespace Sys2Proof.Machine

/-! ## Numbering (R30) -/

/-- A CSN's place in the two tables: the numbers of its first cell and its first sensor. -/
structure Span where
  node : DirEntry
  cells : Nat
  sensors : Nat
  firstCell : Nat
  firstSensor : Nat
  deriving DecidableEq, Repr

/-- The CSNs of a directory in address order with their places, counting from the given numbers (R30). -/
def spansFrom : List DirEntry → Nat → Nat → List Span
  | [], _, _ => []
  | e :: rest, c, t =>
    match e.kind with
    | .csn cells sensors => ⟨e, cells, sensors, c, t⟩ :: spansFrom rest (c + cells) (t + sensors)
    | .dtn _ => spansFrom rest c t

def spans (d : List DirEntry) : List Span := spansFrom d 0 0

/-- The place of the CSN at an address. -/
def nodeSpan (d : List DirEntry) (address : Nat) : Option Span := (spans d).find? (·.node.address == address)

/-- The CSN whose cells cover a cell number (R28). -/
def cellSpan (d : List DirEntry) (cell : Nat) : Option Span :=
  (spans d).find? fun p => p.firstCell ≤ cell && cell < p.firstCell + p.cells

def totalCells (d : List DirEntry) : Nat := ((spans d).map (·.cells)).sum

def totalSensors (d : List DirEntry) : Nat := ((spans d).map (·.sensors)).sum

/-- A slice of a table: `count` records from number `first`. -/
def slice {α : Type} (l : List α) (first count : Nat) : List α := (l.drop first).take count

/-! ## Empty records (R31) -/

def emptyCell : Cell where
  populated := false
  masked := false
  condition := .noneYet
  primary := none
  secondary := none
  filtered := none
  age := 0
  sampled := false
  mismatchRun := 0
  agreeRun := 0
  disagree := false
  overRun := 0
  underRun := 0
  limit := .noFlag

def emptySensor : Sensor where
  populated := false
  masked := false
  condition := .noneYet
  reading := none
  age := 0
  sampled := false
  overRun := 0
  overTemp := false
  reference := none
  referenceAge := 0
  lastRise := none
  thermalEvent := false

/-! ## The image summary (R45) -/

/-- Counts of the conditions in a list. -/
def countConditions (l : List Condition) : ConditionCounts :=
  ⟨l.count .noneYet, l.count .fresh, l.count .stale, l.count .lost⟩

/-- A cell that counts toward the summary: a place the directory fills, and not masked (log 31). -/
def Cell.counts (c : Cell) : Bool := c.populated && !c.masked

def Sensor.counts (t : Sensor) : Bool := t.populated && !t.masked

/-- The CSN addresses with at least one unmasked sensor whose thermal-event flag is set, in address order (R45). -/
def thermalNodes (d : List DirEntry) (sensors : List Sensor) : List Nat :=
  ((spans d).filter fun p =>
    (slice sensors p.firstSensor p.sensors).any fun t => t.counts && t.thermalEvent).map (·.node.address)

/-- The image summary of a copied pair of tables (R45). -/
def summarize (d : List DirEntry) (cells : List Cell) (sensors : List Sensor) (sumMismatch : Bool) : Summary where
  populatedCells := cells.countP (·.populated)
  populatedSensors := sensors.countP (·.populated)
  cells := countConditions ((cells.filter Cell.counts).map (·.condition))
  sensors := countConditions ((sensors.filter Sensor.counts).map (·.condition))
  anyStale := cells.any (fun c => c.counts && c.condition == .stale)
    || sensors.any (fun t => t.counts && t.condition == .stale)
  anyLost := cells.any fun c => c.counts && c.condition == .lost
  anyDisagree := cells.any fun c => c.counts && c.disagree
  sumMismatch := sumMismatch
  anyLimit := cells.any (fun c => c.counts && c.limit != .noFlag)
    || sensors.any (fun t => t.counts && t.overTemp)
  thermalNodes := thermalNodes d sensors

end Sys2Proof.Machine
end

