-- ==== Sys2Proof/Machine/Start.lean ====
section
/-! DEFINITION. The values every block takes at power-on, and at RESTART but for what is kept (R183, R199). -/

namespace Sys2Proof.Machine

/-! ## Ring Controller (R5, R12, R20) -/

def autoWindow : Window := ⟨.auto, none, none⟩

/-- The ENUMERATE frame as sent, with count 0 (R4, R10). -/
def enumerateFrame : RingFrame := ⟨0x02, 0xFF, [0x00]⟩

/-- The TOKEN frame (R4, R6). -/
def tokenFrame : RingFrame := ⟨0x01, 0xFF, []⟩

/-- An enumeration attempt: sent from OUT, listened for at RETURN (R1, R10). -/
def enumerationAttempt : Attempt where
  job := .enumerate
  frame := enumerateFrame
  sentFrom := .out
  listensAt := .ret
  retryLeft := true
  fallback := none
  rx := none
  timeout := none

/-- The ring at the start, in its first enumeration attempt: the start counts as a period boundary at once (R5, R16). -/
def startRing (s : Settings) : Ring where
  state := .enumerating
  lastResult := none
  enumeratePending := false
  overruns := 0
  tokenLost := false
  nodeAnswered := false
  windowA := autoWindow
  windowB := autoWindow
  rotation := none
  directory := []
  countdown := s.ring.period
  startPending := false
  cycle := none
  attempt := some enumerationAttempt

/-! ## Record Unit (R31) -/

def startCells : List Cell := List.replicate Config.cellCount emptyCell

def startSensors : List Sensor := List.replicate Config.sensorCount emptySensor

def startRecords : Records where
  cells := startCells
  sensors := startSensors
  image :=
    { cells := startCells, sensors := startSensors, cycle := 0, stamp := 0, ringState := .enumerating
      summary := summarize [] startCells startSensors false }
  sumMismatch := false
  sumMismatchRun := 0
  sumAgreeRun := 0

/-! ## Balance Scheduler (R51) -/

def idleEntry : BalanceEntry := ⟨.idle, 0⟩

def startBalance : List BalanceEntry := List.replicate Config.cellCount idleEntry

/-! ## Envelope Unit (R62, R82) -/

def startSide : EnvelopeSide where
  voltageFactor := 0
  temperatureFactor := 0
  cap := 1024
  target := 0
  stored := 0
  effective := 0
  reason := .zeroed

def startEnvelope : Envelope where
  full := false
  cycle := 0
  stamp := 0
  vmax := none
  vmin := none
  tmax := none
  tmin := none
  charge := startSide
  discharge := startSide
  caps := ⟨false, false, false, false⟩
  zeroed := true
  generation := 0

def startMonitor : Monitor where
  monitoring := false
  chargeLimit := 0
  dischargeLimit := 0
  chargeSum := 0
  dischargeSum := 0
  overcurrent := none

/-! ## Connection Sequencer (R89, R93) -/

def startPermit : Permit where
  energy := .withdrawn
  grid := .lapsed
  holdRemaining := none
  holdGranted := none

def startConnection : Connection where
  state := .opened
  permit := startPermit
  context := none
  negConfirmed := none
  precharge := none
  confirm := none
  shed := none
  opening := none
  lockout := none
  siteVote := none
  stationVote := none
  lastTrip := none

/-! ## Zone Unit (R120, R130) -/

def startZone : ZoneRecord where
  state := .normal
  degraded := true
  blind := false
  thermal := false
  stationHold := false
  countdown := none
  clearCountdown := none
  singleSource := none
  releasedFor := none
  lastRelease := none

def startZones : ZoneUnit := ⟨[], ⟨startZone, startZone, startZone, startZone⟩⟩

/-! ## Thermal Controller (R146) -/

def startCooling (s : Settings) (now : Word32) : Cooling where
  mode := .idle
  modeEntered := now
  tmax := none
  tmin := none
  heatRequest := false
  coolRequest := false
  purgeLatch := false
  demand := s.cooling.fallbackLevel
  override := none
  health := .normal
  flowCondition := false
  chillerCondition := false
  supplyCondition := false
  flowCountdown := none
  recovery := none

/-! ## Line Interface (R163, R165, R169, R172) -/

/-- The start values of the inputs (R165). -/
def startLevels : PerInput Bool where
  negAux := true
  posAux := true
  estop := true
  feederClosed := false
  door := true
  holdSwitch := false
  agentReady := false
  flowOk := true
  chillerFault := false
  damperClosed := false

/-- An input's debounce time (R164): 5 ms for ESTOP, the setting for every other input. -/
def debounceTime (s : Settings) : Input → Nat
  | .estop => Config.estopDebounce
  | _ => s.connection.debounceTime

/-- An input record at the start, with the raw level seen at its terminal (R163, R165). -/
def startInput (s : Settings) (raw : PerInput Bool) (i : Input) : InputRecord where
  raw := raw.get i
  debounce := some (debounceTime s i)
  started := false
  live := startLevels.get i
  armed := true
  latched := startLevels.get i
  changed := false

/-- The outputs once the Thermal Controller has driven the lines of IDLE, every other line deasserted (R146, R172). -/
def startOutputs (s : Settings) : Outputs where
  negMain := false
  posMain := false
  precharge := false
  gridPermissive := false
  agent := ⟨false, false, false, false⟩
  rackFans := 0
  pump := s.cooling.minimumLevel
  exhaust := 0
  condenser := 0
  chillerRun := false
  heater := false
  dampersOpen := false

/-- A value held inside a range. -/
def clampInt (lo hi v : Int) : Int := max lo (min hi v)

/-- A line sample as taken: the current saturates with its flag, the voltages without one (R170, R171). -/
def takeSample (m : LineMeasurement) : LineSample where
  current := clampInt (-20000) 20000 m.current
  stringVoltage := (clampInt 0 15000 m.stringVoltage).toNat
  linkVoltage := (clampInt 0 15000 m.linkVoltage).toNat
  saturated := decide (m.current < -20000) || decide (20000 < m.current)

def startLines (s : Settings) (raw : PerInput Bool) (first : LineSample) (now : Word32) (minute : Nat) : Lines where
  inputs := PerInput.of (startInput s raw)
  sample := first
  coolant := none
  outputs := startOutputs s
  timeBase := now
  minute := minute

/-! ## Port Unit (R199) -/

/-- A port at the start, with the cursor it takes. -/
def startPort (cursor : Word16) : PortRecord where
  rx := none
  gap := none
  dropped := 0
  queue := []
  lost := false
  pendingSet := 0
  enabledSet := BitVec.allOnes 10
  cursor := cursor
  answer := none

end Sys2Proof.Machine
end

