-- ==== Sys2Proof/Machine/State.lean ====
section
/-! DEFINITION. The state of the KS-360: the records of its ten blocks, and the queue of waiting commands. -/

namespace Sys2Proof.Machine

/-- Why the part would stop. The spec names nothing that stops it: every request has a status and every event a rule.
So there is no constructor, and no command faults. -/
inductive Fault
  deriving DecidableEq, Repr

/-- Why a command has no meaning. -/
inductive Refusal
  /-- Raised by `exec` alone, for a command of the table that has no meaning yet (safe: the part stops there). -/
  | notModelled (mnemonic : String)
  deriving DecidableEq, Repr

/-- The State Unit's record (R176), with the stage of a RESTART (R183, log 23). -/
structure StateUnit where
  state : OpState
  sleepPending : Bool
  wakePending : Bool
  lastRefusal : Option RunCheck
  settings : Settings
  restart : RestartStage
  deriving DecidableEq, Repr

/-- The state of the part. `pending` holds the commands that wait, first in, first out; `freeCount` counts the free
choices taken (log 8) and is the model's own. -/
structure State where
  ring : Ring
  records : Records
  balance : List BalanceEntry
  envelope : Envelope
  monitor : Monitor
  connection : Connection
  zones : ZoneUnit
  cooling : Cooling
  lines : Lines
  stateUnit : StateUnit
  portUnit : PortUnit
  freeCount : Nat
  pending : List Instr
  deriving DecidableEq, Repr

/-- The State Unit's record at the start (R176). -/
def startStateUnit : StateUnit where
  state := .setup
  sleepPending := false
  wakePending := false
  lastRefusal := none
  settings := Settings.default
  restart := .idle

/-- The part right after power-on with the given raw levels and first line sample (R199). -/
def State.powerOn (raw : PerInput Bool) (first : LineMeasurement) : State where
  ring := startRing Settings.default
  records := startRecords
  balance := startBalance
  envelope := startEnvelope
  monitor := startMonitor
  connection := startConnection
  zones := startZones
  cooling := startCooling Settings.default 0
  lines := startLines Settings.default raw (takeSample first) 0 Config.minute
  stateUnit := startStateUnit
  portUnit := ⟨⟨startPort 0, startPort 0, startPort 0⟩, [], 0⟩
  freeCount := 0
  pending := []

/-- The part right after reset: power-on with every terminal at its input's start value and no current and no voltage
in the first line sample (DESIGN CHOICE, log 4: the terminals decide these, R163 and R169). -/
def State.reset : State := State.powerOn startLevels ⟨0, 0, 0⟩

end Sys2Proof.Machine
end

