-- ==== Sys2Proof/Machine/Wire.lean ====
section
/-! DEFINITION. What travels on the wires: byte order, the two checks, ring frames (R3, R4, R13), port frames (R186,
R187), and the field widths of payloads (R190). -/

namespace Sys2Proof.Machine

/-! ## Bytes, most significant first -/

def byteOf (n : Nat) : Byte := BitVec.ofNat 8 n

/-- The 16-bit number of two bytes, most significant byte first (R3, chapter 10). -/
def word16 (hi lo : Byte) : Word16 := hi ++ lo

def bytes16 (w : Word16) : List Byte := [w.extractLsb' 8 8, w.extractLsb' 0 8]

def bytes32 (w : Word32) : List Byte :=
  [w.extractLsb' 24 8, w.extractLsb' 16 8, w.extractLsb' 8 8, w.extractLsb' 0 8]

/-! ## The checks -/

/-- One bit of a 16-bit check with the given polynomial, most significant bit first. -/
def crcBit (poly crc : Word16) : Word16 := if crc.msb then (crc <<< 1) ^^^ poly else crc <<< 1

/-- One byte of a 16-bit check, most significant bit first. -/
def crcByte (poly crc : Word16) (b : Byte) : Word16 :=
  Nat.repeat (crcBit poly) 8 (crc ^^^ (b.setWidth 16 <<< 8))

def crcOf (poly init : Word16) (bytes : List Byte) : Word16 := bytes.foldl (crcByte poly) init

/-- The ring check (R3): x^16 + x^15 + x^2 + 1, preset to all zeros. -/
def ringCheck (bytes : List Byte) : Word16 := crcOf 0x8005 0x0000 bytes

/-- The port check (R186): x^16 + x^12 + x^5 + 1, preset to all ones. -/
def portCheck (bytes : List Byte) : Word16 := crcOf 0x1021 0xFFFF bytes

/-! ## Ring frames (R3, R4) -/

/-- The start delimiter (R3). -/
def ringDelimiter : Byte := 0x7E

/-- Kind, address, length and payload: what the ring check covers. -/
def RingFrame.covered (f : RingFrame) : List Byte := f.kind :: f.address :: byteOf f.payload.length :: f.payload

/-- A ring frame as it travels (R3). -/
def RingFrame.bytes (f : RingFrame) : List Byte := ringDelimiter :: f.covered ++ bytes16 (ringCheck f.covered)

/-- The kind code in the low seven bits of a kind byte (R3). -/
def RingFrame.code (f : RingFrame) : Nat := f.kind.toNat % 128

/-- The answer flag, bit 7 of the kind byte (R3). -/
def RingFrame.answered (f : RingFrame) : Bool := f.kind.msb

/-- The SCAN request for a node with a bleed mask (R4). -/
def scanFrame (address : Nat) (mask : Word16) : RingFrame := ⟨0x03, byteOf address, bytes16 mask⟩

/-- The DETECT request for a node (R4). -/
def detectFrame (address : Nat) : RingFrame := ⟨0x04, byteOf address, []⟩

/-- What one byte does to the ring receiver (R13). -/
inductive RingByte
  | more (rx : Option (List Byte))
  | tooLong
  | frame (f : RingFrame) (checked : Bool)
  deriving DecidableEq, Repr

/-- The ring receiver takes one byte (R13). In RECEIVING, `taken` holds the bytes after the delimiter. -/
def ringReceive (rx : Option (List Byte)) (b : Byte) : RingByte :=
  match rx with
  | none => if b = ringDelimiter then .more (some []) else .more none
  | some taken =>
    let taken := taken ++ [b]
    match taken with
    | kind :: address :: length :: rest =>
      if 200 < length.toNat then .tooLong
      else if rest.length < length.toNat + 2 then .more (some taken)
      else
        let f : RingFrame := ⟨kind, address, rest.take length.toNat⟩
        .frame f (rest.drop length.toNat == bytes16 (ringCheck (taken.take (3 + length.toNat))))
    | _ => .more (some taken)

/-- The payload length a good answer of a node has (R4). -/
def answerLength : NodeKind → Nat
  | .csn cells sensors => 5 + 4 * cells + 2 * sensors
  | .dtn channels => 3 * channels

/-- The 16-bit words of a byte list, most significant byte first. -/
def words16 : List Byte → List Word16
  | hi :: lo :: rest => word16 hi lo :: words16 rest
  | _ => []

/-- A SCAN answer's content (R4, R25). -/
structure ScanAnswer where
  counter : Word16
  status : NodeStatus
  cells : List (Option Nat × Option Nat)
  temperatures : List (Option Int)
  deriving DecidableEq, Repr

/-- A cell voltage code as stored: 65535 is none (R32). -/
def cellReading (w : Word16) : Option Nat := if w = 0xFFFF then none else some w.toNat

/-- A temperature as stored: outside −40.0 to +125.0 °C it is none (R32). -/
def temperatureReading (t : Int) : Option Int := if -400 ≤ t ∧ t ≤ 1250 then some t else none

/-- Pairs of primary and secondary from the words of a SCAN answer. -/
def cellPairs : Nat → List Word16 → List (Option Nat × Option Nat)
  | n + 1, p :: q :: rest => (cellReading p, cellReading q) :: cellPairs n rest
  | _, _ => []

/-- Reads a SCAN answer's payload of a node with the given counts (R4); `none` where the length is not the node's. -/
def readScanAnswer (cells sensors : Nat) (payload : List Byte) : Option ScanAnswer :=
  match payload with
  | c1 :: c0 :: status :: m1 :: m0 :: rest =>
    let ws := words16 rest
    some
      { counter := word16 c1 c0
        status := ⟨status.getLsbD 0, word16 m1 m0⟩
        cells := cellPairs cells ws
        temperatures := ((ws.drop (2 * cells)).take sensors).map fun w => temperatureReading w.toInt }
  | _ => none

/-- One channel's reading in a DETECT answer (R4, R26): kind code, fault flag, value as sent. -/
structure DetectReading where
  kind : Nat
  fault : Bool
  value : Word16
  deriving DecidableEq, Repr

/-- Reads a DETECT answer's payload (R4). -/
def readDetectAnswer : List Byte → List DetectReading
  | k :: hi :: lo :: rest => ⟨k.toNat % 128, k.msb, word16 hi lo⟩ :: readDetectAnswer rest
  | _ => []

/-- One 3-byte descriptor of a returned ENUMERATE frame (R4), as far as it can be read (R10, third check). -/
def readDescriptor (kind first second : Byte) : Option NodeKind :=
  if kind = 0x01 then
    if 1 ≤ first.toNat ∧ first.toNat ≤ 16 ∧ second.toNat ≤ 4 then some (.csn first.toNat second.toNat) else none
  else if kind = 0x02 then
    if 1 ≤ first.toNat ∧ first.toNat ≤ 8 ∧ second = 0 then some (.dtn first.toNat) else none
  else none

/-- The descriptors of a returned ENUMERATE frame; `none` where one cannot be (R10, third check). -/
def readDescriptors : List Byte → Option (List NodeKind)
  | [] => some []
  | k :: a :: b :: rest => do
    let d ← readDescriptor k a b
    let ds ← readDescriptors rest
    some (d :: ds)
  | _ => none

def NodeKind.isCsn : NodeKind → Bool
  | .csn _ _ => true
  | .dtn _ => false

/-- The four checks of a returned ENUMERATE frame, in order (R10). A frame with no count byte fails the second
(log 21). -/
def checkEnumeration (payload : List Byte) : Except EnumResult (List NodeKind) :=
  match payload with
  | [] => .error .badDescriptor
  | count :: rest =>
    if 24 < count.toNat then .error .tooMany
    else if rest.length ≠ 3 * count.toNat then .error .badDescriptor
    else
      match readDescriptors rest with
      | none => .error .badDescriptor
      | some ds =>
        if 20 < ds.countP (·.isCsn) ∨ 4 < ds.countP (fun d => !d.isCsn) then .error .tooMany else .ok ds

/-! ## Port frames (R186, R187) -/

/-- SYNC (R186). -/
def portSync : Byte := 0xA5

/-- LEN, CMD and payload: what the port check covers. -/
def Request.covered (r : Request) : List Byte := byteOf (r.payload.length + 1) :: r.code :: r.payload

/-- A request frame as it travels (R186). -/
def Request.bytes (r : Request) : List Byte := portSync :: r.covered ++ bytes16 (portCheck r.covered)

/-- A status code (R188). -/
def Status.code : Status → Nat
  | .ok => 0
  | .unknownRequest => 1
  | .badLength => 2
  | .notPermitted => 3
  | .outOfRange => 4
  | .wrongState => 5
  | .refused => 6
  | .already => 7
  | .tooLate => 8

/-- LEN, CMD, STATUS, CAUSE, FLAGS and payload of an answer frame (R186). -/
def Answer.covered (a : Answer) : List Byte :=
  byteOf (a.payload.length + 4) :: a.code :: byteOf a.status.code :: byteOf a.cause
    :: (if a.lost then 0x01 else 0x00) :: a.payload

/-- An answer frame as it travels (R186). -/
def Answer.bytes (a : Answer) : List Byte := portSync :: a.covered ++ bytes16 (portCheck a.covered)

/-- What one byte does to a port receiver (R187). -/
inductive PortByte
  | more (rx : Option (List Byte))
  | dropped
  | request (r : Request)
  deriving DecidableEq, Repr

/-- A port receiver takes one byte (R187). In RECEIVING, `taken` holds the bytes after SYNC. -/
def portReceive (rx : Option (List Byte)) (b : Byte) : PortByte :=
  match rx with
  | none => if b = portSync then .more (some []) else .more none
  | some taken =>
    match taken ++ [b] with
    | [] => .more none
    | len :: rest =>
      if len.toNat = 0 ∨ 64 < len.toNat then .dropped
      else if rest.length < len.toNat + 2 then .more (some (len :: rest))
      else
        match rest.take len.toNat with
        | [] => .dropped
        | code :: payload =>
          if rest.drop len.toNat = bytes16 (portCheck (len :: code :: payload)) then .request ⟨code, payload⟩
          else .dropped

/-! ## Payload fields (R190) -/

/-- A 1-byte field. -/
def f1 (n : Nat) : List Byte := [byteOf n]

/-- A 2-byte unsigned field. -/
def f2 (n : Nat) : List Byte := bytes16 (BitVec.ofNat 16 n)

/-- A 2-byte signed field, in two's complement. -/
def f2s (n : Int) : List Byte := bytes16 (BitVec.ofInt 16 n)

/-- A 4-byte unsigned field. -/
def f4 (n : Nat) : List Byte := bytes32 (BitVec.ofNat 32 n)

/-- A flag: 0 clear, 1 set. -/
def flag (b : Bool) : List Byte := [if b then 0x01 else 0x00]

/-- A field that may be absent: a presence byte, and zeros in the place of an absent field's `width` bytes. -/
def optional {α : Type} (width : Nat) (write : α → List Byte) : Option α → List Byte
  | some v => 0x01 :: write v
  | none => 0x00 :: List.replicate width 0x00

/-- A set of named values: bit n − 1 for the value at position n. -/
def setByte (bits : List Bool) : List Byte :=
  [byteOf (bits.foldr (fun b acc => (if b then 1 else 0) + 2 * acc) 0)]

/-- A list of varying length: a 1-byte count, then its elements. -/
def counted {α : Type} (write : α → List Byte) (l : List α) : List Byte := f1 l.length ++ l.flatMap write

/-- A cell voltage code as sent: none is 65535. -/
def cellField (v : Option Nat) : List Byte := f2 (v.getD 65535)

/-- The code a none temperature is sent as: some code outside −40.0 to +125.0 °C (log 7). -/
def noneTemperatureCode : Word16 := BitVec.ofNat 16 (1251 + Config.noneTemperatureIndex % 63885)

/-- A temperature as sent. -/
def temperatureField : Option Int → List Byte
  | some t => f2s t
  | none => bytes16 noneTemperatureCode

end Sys2Proof.Machine
end

