-- ==== Sys2Proof/Machine/Operands.lean ====
section
/-! DEFINITION. The operands of requests as they travel (R191): each request's code, rights, payload length and
payload coding, both ways. -/

namespace Sys2Proof.Machine

/-- The request a command is, with its sending port; `none` for events and for RESTART_TAKEN (R191). -/
def requestOf : Instr → Option (PortId × Request)
  | .unknownRequest p code payload => some (p, ⟨code, payload⟩)
  | .readState p => some (p, ⟨0x01, []⟩)
  | .readNodes p first count => some (p, ⟨0x02, [first, count]⟩)
  | .readCells p start count => some (p, ⟨0x03, bytes16 start ++ [count]⟩)
  | .readTemps p start count => some (p, ⟨0x04, bytes16 start ++ [count]⟩)
  | .readEnvelope p => some (p, ⟨0x05, []⟩)
  | .readConnection p => some (p, ⟨0x06, []⟩)
  | .readZones p => some (p, ⟨0x07, []⟩)
  | .readChannels p first count => some (p, ⟨0x08, [first, count]⟩)
  | .readInputs p => some (p, ⟨0x09, []⟩)
  | .readCooling p => some (p, ⟨0x0A, []⟩)
  | .readJournal p => some (p, ⟨0x0B, []⟩)
  | .noticeMask p set => some (p, ⟨0x0C, bytes16 set⟩)
  | .ack p set => some (p, ⟨0x0D, bytes16 set⟩)
  | .setSetting p group item index value => some (p, ⟨0x20, group :: item :: index :: value⟩)
  | .enterRun p => some (p, ⟨0x21, []⟩)
  | .enterSetup p => some (p, ⟨0x22, []⟩)
  | .enumerate p => some (p, ⟨0x23, []⟩)
  | .sleep p => some (p, ⟨0x24, []⟩)
  | .wake p => some (p, ⟨0x25, []⟩)
  | .restart p => some (p, ⟨0x26, []⟩)
  | .mask p target first count action => some (p, ⟨0x27, target :: bytes16 first ++ [count, action]⟩)
  | .unmask p target first count => some (p, ⟨0x27, target :: bytes16 first ++ [count, 0x02]⟩)
  | .setWatchFixed p window mode address => some (p, ⟨0x28, [window, mode, address]⟩)
  | .setWatchAuto p window => some (p, ⟨0x28, [window, 0x01, 0x00]⟩)
  | .balance p pairs =>
    some (p, ⟨0x29, byteOf pairs.length :: pairs.flatMap fun (c, m) => bytes16 c ++ bytes16 m⟩)
  | .coolingOverrideSet p action f =>
    some (p, ⟨0x2A, [action, f.rackFans, f.pump, f.exhaust, f.condenser, f.chiller, f.heater, f.dampers, f.duration]⟩)
  | .coolingOverrideCancel p => some (p, ⟨0x2A, [0x02, 0, 0, 0, 0, 0, 0, 0, 0]⟩)
  | .energyPermitGrant p action => some (p, ⟨0x2B, [action]⟩)
  | .energyPermitWithdraw p => some (p, ⟨0x2B, [0x02]⟩)
  | .clearLockout p => some (p, ⟨0x30, []⟩)
  | .close p marker => some (p, ⟨0x40, [marker]⟩)
  | .openRequest p marker => some (p, ⟨0x41, [marker]⟩)
  | .gridPermitGrant p action hold => some (p, ⟨0x50, action :: bytes16 hold⟩)
  | .gridPermitWithdraw p hold => some (p, ⟨0x50, 0x02 :: bytes16 hold⟩)
  | .remoteTrip p marker => some (p, ⟨0x51, [marker]⟩)
  | .hold p zone => some (p, ⟨0x52, [zone]⟩)
  | .holdRelease p zone => some (p, ⟨0x53, [zone]⟩)
  | .abort p zone => some (p, ⟨0x54, [zone]⟩)
  | .resetZone p zone => some (p, ⟨0x55, [zone]⟩)
  | .powerOn _ _ => none
  | .restartTaken _ => none
  | .periodBoundary => none
  | .ringFrameReceived _ _ => none
  | .ringFrameAbort _ _ => none
  | .ringAnswerTimeout _ _ => none
  | .clearCountdownExpiry _ => none
  | .singleSourceExpiry _ => none
  | .releaseCountdownExpiry _ => none
  | .inputEdge _ _ => none
  | .debounceExpiry _ => none
  | .confirmCountdownExpiry => none
  | .prechargeTimeout => none
  | .shedTimeout => none
  | .gridHoldExpiry => none
  | .voteExpiry _ => none
  | .flowCountdownExpiry => none
  | .recoveryCountdownExpiry => none
  | .overrideExpiry => none
  | .minuteTick => none
  | .lineSample _ => none
  | .coolantSample _ _ => none
  | .portFrameReceived _ _ => none
  | .portGapTimeout _ _ => none
  | .answerSent _ => none
  | .ringRequestSent => none

/-- Who may send a request (R191). -/
inductive Rights | all | site | siteAndStation | converter | station
  deriving DecidableEq, Repr

/-- A request code's rights; `none` for a code that is no request code (R191). -/
def rightsOf (code : Byte) : Option Rights :=
  let n := code.toNat
  if 0x01 ≤ n ∧ n ≤ 0x0D then some .all
  else if 0x20 ≤ n ∧ n ≤ 0x2B then some .site
  else if n = 0x30 then some .siteAndStation
  else if n = 0x40 ∨ n = 0x41 then some .converter
  else if 0x50 ≤ n ∧ n ≤ 0x55 then some .station
  else none

def Rights.allow : Rights → PortId → Bool
  | .all, _ => true
  | .site, .site => true
  | .siteAndStation, .site => true
  | .siteAndStation, .station => true
  | .converter, .converter => true
  | .station, .station => true
  | _, _ => false

/-- A payload length the request allows (R191). BALANCE's length must equal 1 + 4 × its count byte. -/
def lengthAllowed (r : Request) : Bool :=
  let n := r.payload.length
  match r.code.toNat with
  | 0x02 => n == 2
  | 0x03 => n == 3
  | 0x04 => n == 3
  | 0x08 => n == 2
  | 0x0C => n == 2
  | 0x0D => n == 2
  | 0x20 => n == 7 || n == 6 || n == 9
  | 0x27 => n == 5
  | 0x28 => n == 3
  | 0x29 => match r.payload with
    | count :: rest => rest.length == 4 * count.toNat
    | [] => false
  | 0x2A => n == 9
  | 0x2B => n == 1
  | 0x40 => n == 1
  | 0x41 => n == 1
  | 0x50 => n == 3
  | 0x51 => n == 1
  | 0x52 => n == 1
  | 0x53 => n == 1
  | 0x54 => n == 1
  | 0x55 => n == 1
  | _ => n == 0

/-- The pairs of a BALANCE payload after its count byte. -/
def readPairs : List Byte → List (Word16 × Word16)
  | c1 :: c0 :: m1 :: m0 :: rest => (word16 c1 c0, word16 m1 m0) :: readPairs rest
  | _ => []

/-- The command a request is (R191); a code that is no request code, or a length the code does not allow, gives the
UNKNOWN_REQUEST command or none. -/
def readRequest (p : PortId) (r : Request) : Option Instr :=
  match r.code.toNat, r.payload with
  | 0x01, [] => some (.readState p)
  | 0x02, [first, count] => some (.readNodes p first count)
  | 0x03, [s1, s0, count] => some (.readCells p (word16 s1 s0) count)
  | 0x04, [s1, s0, count] => some (.readTemps p (word16 s1 s0) count)
  | 0x05, [] => some (.readEnvelope p)
  | 0x06, [] => some (.readConnection p)
  | 0x07, [] => some (.readZones p)
  | 0x08, [first, count] => some (.readChannels p first count)
  | 0x09, [] => some (.readInputs p)
  | 0x0A, [] => some (.readCooling p)
  | 0x0B, [] => some (.readJournal p)
  | 0x0C, [s1, s0] => some (.noticeMask p (word16 s1 s0))
  | 0x0D, [s1, s0] => some (.ack p (word16 s1 s0))
  | 0x20, group :: item :: index :: value => some (.setSetting p group item index value)
  | 0x21, [] => some (.enterRun p)
  | 0x22, [] => some (.enterSetup p)
  | 0x23, [] => some (.enumerate p)
  | 0x24, [] => some (.sleep p)
  | 0x25, [] => some (.wake p)
  | 0x26, [] => some (.restart p)
  | 0x27, [target, f1, f0, count, action] =>
    if action = 0x02 then some (.unmask p target (word16 f1 f0) count)
    else some (.mask p target (word16 f1 f0) count action)
  | 0x28, [window, mode, address] =>
    if mode = 0x01 then some (.setWatchAuto p window) else some (.setWatchFixed p window mode address)
  | 0x29, _ :: pairs => some (.balance p (readPairs pairs))
  | 0x2A, [action, rack, pump, exhaust, condenser, chiller, heater, dampers, duration] =>
    if action = 0x02 then some (.coolingOverrideCancel p)
    else some (.coolingOverrideSet p action ⟨rack, pump, exhaust, condenser, chiller, heater, dampers, duration⟩)
  | 0x2B, [action] => if action = 0x02 then some (.energyPermitWithdraw p) else some (.energyPermitGrant p action)
  | 0x30, [] => some (.clearLockout p)
  | 0x40, [marker] => some (.close p marker)
  | 0x41, [marker] => some (.openRequest p marker)
  | 0x50, [action, h1, h0] =>
    if action = 0x02 then some (.gridPermitWithdraw p (word16 h1 h0))
    else some (.gridPermitGrant p action (word16 h1 h0))
  | 0x51, [marker] => some (.remoteTrip p marker)
  | 0x52, [zone] => some (.hold p zone)
  | 0x53, [zone] => some (.holdRelease p zone)
  | 0x54, [zone] => some (.abort p zone)
  | 0x55, [zone] => some (.resetZone p zone)
  | _, payload => if (rightsOf r.code).isNone then some (.unknownRequest p r.code payload) else none

/-- The Port Unit's first three checks of a request at the head of its queue, in order (R188): the answer they give,
or none when the request goes to its owner. -/
def portCheckOf (p : PortId) (r : Request) : Option Status :=
  match rightsOf r.code with
  | none => some .unknownRequest
  | some rights =>
    if !rights.allow p then some .notPermitted
    else if !lengthAllowed r then some .badLength
    else none

end Sys2Proof.Machine
end

