-- ==== Sys2Proof/Machine/Flags.lean ====
section
/-! DEFINITION. The notice flags of the three ports (R192 to R195): causes, pending and enabled sets, the attention
lines and the CAUSE byte. -/

namespace Sys2Proof.Machine

/-- The causes in priority order (R192). -/
def Notice.all : List Notice :=
  [.fire, .trip, .connection, .permit, .envelope, .cell, .ring, .cooling, .input, .journal]

/-- A cause's priority, which is its code in the CAUSE byte (R192). -/
def Notice.priority : Notice → Nat
  | .fire => 1
  | .trip => 2
  | .connection => 3
  | .permit => 4
  | .envelope => 5
  | .cell => 6
  | .ring => 7
  | .cooling => 8
  | .input => 9
  | .journal => 10

/-- A cause's bit in a set: bit n − 1 for priority n (R192). -/
def Notice.bit (n : Notice) : BitVec 10 := 1#10 <<< (n.priority - 1)

/-- A cause is in a set. -/
def Notice.inSet (n : Notice) (set : BitVec 10) : Bool := set.getLsbD (n.priority - 1)

/-- A port's causes both pending and enabled (R194). -/
def PortRecord.showing (p : PortRecord) : BitVec 10 := p.pendingSet &&& p.enabledSet

/-- A port's attention line (R194). -/
def PortRecord.attention (p : PortRecord) : Bool := p.showing != 0

/-- The CAUSE byte: the highest-priority cause pending and enabled, or 0 (R194). -/
def PortRecord.causeByte (p : PortRecord) : Nat :=
  match Notice.all.find? (·.inSet p.showing) with
  | some n => n.priority
  | none => 0

/-- A cause becomes pending at one port. -/
def PortRecord.raise (n : Notice) (p : PortRecord) : PortRecord := { p with pendingSet := p.pendingSet ||| n.bit }

/-- A cause is raised: it becomes pending at all three ports, whatever they have enabled (R193). -/
def raise (n : Notice) (s : State) : State :=
  { s with portUnit.ports := s.portUnit.ports.map (PortRecord.raise n) }

/-- A set of causes as sent: `none` when any of bits 10 to 15 is set (R194, R195). -/
def causeSet (w : Word16) : Option (BitVec 10) := if w.toNat < 1024 then some (w.setWidth 10) else none

end Sys2Proof.Machine
end

