-- ==== Sys2Proof/Machine/Ops.lean ====
section
/-! DEFINITION. The operations the blocks share: reading the field lines and the settings, appending to the journal
(R197), and handing a request to its owner and its answer to the port (R188, R189). -/

namespace Sys2Proof.Machine

/-! ## Reading what other blocks hold -/

/-- The settings record. -/
def State.settings (s : State) : Settings := s.stateUnit.settings

/-- An input's live level, the level every block reads (R163, R166). -/
def State.live (s : State) (i : Input) : Bool := (s.lines.inputs.get i).live

/-- The time base (R173). -/
def State.now (s : State) : Word32 := s.lines.timeBase

/-- A zone's record. -/
def State.zone (s : State) (z : Zone) : ZoneRecord := s.zones.zones.get z

/-- A zone's record is replaced. -/
def setZone (z : Zone) (r : ZoneRecord) (s : State) : State := { s with zones.zones := s.zones.zones.set z r }

/-- A port's record. -/
def State.port (s : State) (p : PortId) : PortRecord := s.portUnit.ports.get p

/-- A port's record is replaced. -/
def setPort (p : PortId) (r : PortRecord) (s : State) : State :=
  { s with portUnit.ports := s.portUnit.ports.set p r }

/-- A working cell record is replaced. -/
def setCell (n : Nat) (c : Cell) (s : State) : State := { s with records.cells := s.records.cells.set n c }

/-- A working temperature record is replaced. -/
def setSensor (n : Nat) (t : Sensor) (s : State) : State := { s with records.sensors := s.records.sensors.set n t }

/-- A connection that cannot carry current and is not on its way to or from doing so: OPEN or LOCKOUT. -/
def ConnState.atRest : ConnState → Bool
  | .opened => true
  | .lockout => true
  | _ => false

/-- A zone state beyond PRE_ALARM (R76, R114). -/
def ZoneState.beyondPreAlarm : ZoneState → Bool
  | .normal => false
  | .preAlarm => false
  | _ => true

/-! ## The journal (R196, R197) -/

/-- What a block hands the Port Unit for a record. -/
structure Entry where
  kind : JournalKind
  cause : JournalCause
  origin : Option Origin := none
  zone : Option Zone := none
  location : Option Location := none
  deriving DecidableEq, Repr

/-- The record the Port Unit makes of an entry: sequence, time stamp and the latest line sample are added (R197). -/
def recordOf (e : Entry) (s : State) : JournalRecord where
  sequence := s.portUnit.nextSequence
  stamp := s.now
  kind := e.kind
  cause := e.cause
  origin := e.origin
  zone := e.zone
  location := e.location
  current := s.lines.sample.current
  voltage := s.lines.sample.stringVoltage

/-- A record placed after the newest, the oldest dropped first when the journal is full (R197). -/
def placeRecord (l : List JournalRecord) (r : JournalRecord) : List JournalRecord :=
  l.drop (l.length + 1 - Config.journalDepth) ++ [r]

/-- An entry is appended to the journal, and JOURNAL is raised (R197). -/
def append (e : Entry) (s : State) : State :=
  raise .journal
    { s with
      portUnit.journal := placeRecord s.portUnit.journal (recordOf e s)
      portUnit.nextSequence := s.portUnit.nextSequence + 1 }

/-! ## Requests and answers (R188, R189) -/

def Reply.ok (payload : List Byte := []) : Reply := ⟨.ok, payload⟩
def Reply.already (payload : List Byte := []) : Reply := ⟨.already, payload⟩
def Reply.wrongState (payload : List Byte := []) : Reply := ⟨.wrongState, payload⟩
def Reply.outOfRange (payload : List Byte := []) : Reply := ⟨.outOfRange, payload⟩

/-- REFUSED, with the reason as the first payload byte (R186). -/
def Reply.refused (reason : Nat) (payload : List Byte := []) : Reply := ⟨.refused, byteOf reason :: payload⟩

/-- A port builds the answer to its head request and starts sending it: CAUSE and LOST_REQUEST are taken as the port
stands, and the lost flag is cleared (R189, R194). A request that finds the queue empty becomes the head (log 3). -/
def PortRecord.answerWith (req : Request) (r : Reply) (p : PortRecord) : PortRecord :=
  { p with
    queue := if p.queue.isEmpty then [req] else p.queue
    lost := false
    answer := some ⟨req.code, r.status, p.causeByte, p.lost, r.payload⟩ }

/-- An answer goes to its port. -/
def deliver (p : PortId) (req : Request) (r : Reply) (s : State) : State :=
  setPort p ((s.port p).answerWith req r) s

/-- A request that reaches the head and has no right to be sent, or a length its code does not allow, is answered at
once (R188). An unknown code waits for UNKNOWN_REQUEST, and any other request for its own command (log 3). -/
def PortRecord.admitNext (p : PortId) (r : PortRecord) : PortRecord :=
  match r.answer, r.queue with
  | none, head :: _ =>
    match portCheckOf p head with
    | some .notPermitted => r.answerWith head ⟨.notPermitted, []⟩
    | some .badLength => r.answerWith head ⟨.badLength, []⟩
    | _ => r
  | _, _ => r

/-- A request has been assembled: it goes to the queue, or is discarded where the queue holds two (R189). -/
def PortRecord.enqueue (p : PortId) (q : Request) (r : PortRecord) : PortRecord :=
  if Config.queueDepth ≤ r.queue.length then { r with lost := true }
  else PortRecord.admitNext p { r with queue := r.queue ++ [q] }

/-- A request command is the event of its request being handed over now: the port is sending no answer, and the request
stands at the head of the queue or finds the queue empty (R189, log 3). -/
def PortRecord.handsOver (p : PortId) (i : Instr) (r : PortRecord) : Bool :=
  r.answer.isNone
    && match r.queue with
      | [] => true
      | head :: _ => readRequest p head == some i

/-- A request is handed over: the Port Unit's checks first (R188), then its owner, then the answer (R189). -/
def handOver (p : PortId) (req : Request) (owner : State → State × Reply) (s : State) : State :=
  match portCheckOf p req with
  | some status => deliver p req ⟨status, []⟩ s
  | none => deliver p req (owner s).2 (owner s).1

/-- A request command. Where its request cannot be handed over now, it has just been assembled behind another one: it
waits in the queue, or is discarded where the queue holds two (R189, log 3). -/
def serve (i : Instr) (owner : State → State × Reply) (s : State) : Host.Outcome State Fault Refusal :=
  match requestOf i with
  | none => .next s
  | some (p, req) =>
    .next (if (s.port p).handsOver p i then handOver p req owner s else setPort p ((s.port p).enqueue p req) s)

/-- A request that changes nothing but its answer. -/
def serveRead (i : Instr) (answer : State → Reply) (s : State) : Host.Outcome State Fault Refusal :=
  serve i (fun s => (s, answer s)) s

end Sys2Proof.Machine
end

