-- ==== Sys2Proof/Machine/Envelope.lean ====
section
/-! DEFINITION. The Envelope Unit (chapter 4): extremes, factors, caps, targets, the ramp, zeroing, the envelope record
and the current monitor. -/

namespace Sys2Proof.Machine

/-! ## Extremes (R66, R67) -/

/-- A cell that contributes: populated, unmasked, FRESH or STALE (R66). -/
def Cell.contributes (c : Cell) : Bool := c.counts && (c.condition == .fresh || c.condition == .stale)

/-- The voltage a contributing cell gives, with the more adverse of two readings chosen by `worse` (R66). -/
def Cell.voltage (worse : Nat → Nat → Nat) (c : Cell) : Option Nat :=
  if !c.contributes then none
  else if !c.disagree then c.filtered
  else
    match c.primary, c.secondary with
    | some p, some q => some (worse p q)
    | some p, none => some p
    | none, some q => some q
    | none, none => c.filtered

/-- A cell's voltage for Vmax. -/
def Cell.high (c : Cell) : Option Nat := c.voltage max

/-- A cell's voltage for Vmin. -/
def Cell.low (c : Cell) : Option Nat := c.voltage min

/-- The temperature a contributing sensor gives (R67). -/
def Sensor.contribution (t : Sensor) : Option Int :=
  if t.counts && (t.condition == .fresh || t.condition == .stale) then t.reading else none

def Image.vmax (i : Image) : Option Nat := (i.cells.filterMap Cell.high).max?
def Image.vmin (i : Image) : Option Nat := (i.cells.filterMap Cell.low).min?
def Image.tmax (i : Image) : Option Int := (i.sensors.filterMap Sensor.contribution).max?
def Image.tmin (i : Image) : Option Int := (i.sensors.filterMap Sensor.contribution).min?

/-! ## Voltage factors (R68, R69) -/

def chargeVoltageFactor (e : EnvelopeSettings) : Option Nat → Nat
  | none => 0
  | some v =>
    if e.vceil ≤ v then 0
    else if v ≤ e.vtaper then 1024
    else 1024 * (e.vceil - v) / (e.vceil - e.vtaper)

def dischargeVoltageFactor (e : EnvelopeSettings) : Option Nat → Nat
  | none => 0
  | some v =>
    if v ≤ e.vfloor then 0
    else if e.vknee ≤ v then 1024
    else 1024 * (v - e.vfloor) / (e.vknee - e.vfloor)

/-! ## The derating table (R70, R71) -/

/-- R70's interpolation between two points, floored. -/
def interpolate (ta tb : Int) (fa fb : Nat) (t : Int) : Nat :=
  ((fa * (tb - t) + fb * (t - ta)) / (tb - ta)).toNat

/-- R70's lookup; `before` is the point just before the rest of the table. -/
def derateFrom (f : DeratingPoint → Nat) (t : Int) : Option DeratingPoint → List DeratingPoint → Nat
  | none, [] => 0
  | some a, [] => f a
  | none, b :: rest => if t ≤ b.temperature then f b else derateFrom f t (some b) rest
  | some a, b :: rest =>
    if t ≤ b.temperature then
      if b.temperature ≤ a.temperature then f b else interpolate a.temperature b.temperature (f a) (f b) t
    else derateFrom f t (some b) rest

def derate (table : List DeratingPoint) (f : DeratingPoint → Nat) (t : Int) : Nat := derateFrom f t none table

/-- The charge temperature factor (R71). -/
def chargeTemperatureFactor (e : EnvelopeSettings) : Option Int → Option Int → Nat
  | some tmin, some tmax => min (derate e.derating (·.charge) tmin) (derate e.derating (·.charge) tmax)
  | _, _ => 0

/-- The discharge temperature factor (R71): with no sensor, the smallest discharge factor of the table. -/
def dischargeTemperatureFactor (e : EnvelopeSettings) : Option Int → Option Int → Nat
  | some tmin, some tmax => min (derate e.derating (·.discharge) tmin) (derate e.derating (·.discharge) tmax)
  | _, _ => ((e.derating.map (·.discharge)).min?).getD 0

/-! ## Caps and zeroing (R72, R76) -/

/-- The conditions that apply the caps (R72). -/
def capsInForce (s : State) : CapSet where
  stale := s.records.image.summary.anyStale
  cooling := s.cooling.health == .degraded
  disagree := s.records.image.summary.anyDisagree || s.records.image.summary.sumMismatch
  zone := s.zones.zones.toList.any fun r => r.state == .preAlarm || r.blind

/-- The caps in force in R79's order, each with its reason and the given zone cap. -/
def capList (e : EnvelopeSettings) (c : CapSet) (zoneCap : Nat) : List (Reason × Nat) :=
  (if c.zone then [(.capZone, zoneCap)] else []) ++ (if c.stale then [(.capStale, e.staleCap)] else [])
    ++ (if c.disagree then [(.capDisagree, e.disagreeCap)] else [])
    ++ (if c.cooling then [(.capCooling, e.coolingCap)] else [])

/-- The smallest cap, or 1024 when none applies (R72). -/
def smallestCap (l : List (Reason × Nat)) : Nat := l.foldl (fun m c => min m c.2) 1024

/-- A zeroing condition holds (R76). -/
def zeroing (s : State) : Bool :=
  s.stateUnit.state != .run
    || (s.connection.state == .shedding || s.connection.state == .opening || s.connection.state == .lockout)
    || s.zones.zones.toList.any (fun r => r.state.beyondPreAlarm)
    || s.ring.state == .severed

/-! ## Targets, stored limits, reasons (R73 to R79) -/

/-- The ramp step (R74). -/
def rampStep (c : Settings) : Nat := max 1 (c.envelope.rampRate * c.ring.period / 1000)

/-- A stored limit before zeroing: R74 at a full computation, R75 at a decrease-only one. -/
def nextStored (full : Bool) (step target stored : Nat) : Nat :=
  if full then (if target ≤ stored then target else min target (stored + step)) else min stored target

/-- The binding reason (R79). -/
def bindingReason (zeroed : Bool) (vf tf cap target stored : Nat) (caps : List (Reason × Nat)) : Reason :=
  if zeroed then .zeroed
  else if stored < target then .ramp
  else if vf ≤ tf ∧ vf ≤ cap then .voltage
  else if tf ≤ cap then .temperature
  else
    match caps.find? (fun c => c.2 == cap) with
    | some c => c.1
    | none => .voltage

/-- One direction's half of a computation (R73 to R77, R79). -/
def computeSide (full zeroed : Bool) (step rated vf tf : Nat) (caps : List (Reason × Nat)) (old : EnvelopeSide) :
    EnvelopeSide :=
  let cap := smallestCap caps
  let target := rated * min vf (min tf cap) / 1024
  let stored := if zeroed then 0 else nextStored full step target old.stored
  { voltageFactor := vf
    temperatureFactor := tf
    cap := cap
    target := target
    stored := stored
    effective := stored
    reason := bindingReason zeroed vf tf cap target stored caps }

/-- The envelope record of a computation (R63, R64, R78). -/
def nextEnvelope (full : Bool) (s : State) : Envelope :=
  let e := s.settings.envelope
  let image := s.records.image
  let caps := capsInForce s
  let zeroed := zeroing s
  let step := rampStep s.settings
  let old := s.envelope
  let charge := computeSide full zeroed step e.ratedCharge (chargeVoltageFactor e image.vmax)
    (chargeTemperatureFactor e image.tmin image.tmax) (capList e caps 0) old.charge
  let charge := if charge.cap = 0 then { charge with effective := 0 } else charge
  let discharge := computeSide full zeroed step e.ratedDischarge (dischargeVoltageFactor e image.vmin)
    (dischargeTemperatureFactor e image.tmin image.tmax) (capList e caps e.preAlarmCap) old.discharge
  { full := full
    cycle := image.cycle
    stamp := s.now
    vmax := image.vmax
    vmin := image.vmin
    tmax := image.tmax
    tmin := image.tmin
    charge := charge
    discharge := discharge
    caps := caps
    zeroed := zeroed
    generation :=
      if charge.effective ≠ old.charge.effective ∨ discharge.effective ≠ old.discharge.effective
      then old.generation + 1 else old.generation }

/-- A fall that raises the ENVELOPE notice (R80). -/
def largeFall (rated before after : Nat) : Bool :=
  (0 < before && after == 0) || (after < before && rated < 8 * (before - after))

/-- A computation: the record is rewritten whole, and a large fall raises ENVELOPE (R63, R64, R78, R80). -/
def compute (full : Bool) (s : State) : State :=
  let n := nextEnvelope full s
  let old := s.envelope
  let t := { s with envelope := n }
  if largeFall s.settings.envelope.ratedCharge old.charge.effective n.charge.effective
      || largeFall s.settings.envelope.ratedDischarge old.discharge.effective n.discharge.effective
  then raise .envelope t else t

/-- A cap input has changed: a decrease-only computation (R64). -/
def capInputChanged (s : State) : State := compute false s

/-- A publication: a full computation (R63). -/
def fullComputation (s : State) : State := compute true s

/-! ## The monitor (R82 to R87) -/

/-- The monitor takes a report of the connection leaving one state for another (R83). -/
def monitorReport (old new : ConnState) (s : State) : State :=
  let m := s.monitor
  let m := if old = .closed then { m with monitoring := false } else m
  let m :=
    match new with
    | .closed =>
      { m with
        monitoring := true
        chargeSum := 0
        dischargeSum := 0
        chargeLimit := s.envelope.charge.effective
        dischargeLimit := s.envelope.discharge.effective }
    | .opened => { m with chargeSum := 0, dischargeSum := 0 }
    | _ => m
  { s with monitor := m }

/-- The step-down per sample D (R84). -/
def stepDown (e : EnvelopeSettings) : Nat := max 1 (e.stepDownRate / 100)

/-- A monitor limit after a sample (R84). -/
def followLimit (step effective limit : Nat) : Nat := if limit ≤ effective then effective else max effective (limit - step)

/-- The allowance of a monitor limit (R85). -/
def allowance (e : EnvelopeSettings) (limit : Nat) : Nat := limit + max (limit * e.tolerance / 100) 50

/-- The trip threshold in A·ms (R86), of the excess budget as it is stored. READ_ENVELOPE sends this one before the next
CLOSED period too (DESIGN CHOICE, log 43). -/
def excessThreshold (e : EnvelopeSettings) : Nat := e.excessBudget * 1000

/-- An accumulator's sum at a sample (R86): the excess is added, and a negative result is set to 0. -/
def excessSum (sum : Nat) (excess : Int) : Nat := (sum + excess).toNat

/-- The monitor record after a sample of a current, and the directions whose sums reach the threshold (R84 to R87).
A direction that trips has its accumulator at 0 and writes the overcurrent record. -/
def monitorSample (e : EnvelopeSettings) (v : Envelope) (now : Word32) (current : Int) (m : Monitor) :
    Monitor × List FlowDirection :=
  let mc := followLimit (stepDown e) v.charge.effective m.chargeLimit
  let md := followLimit (stepDown e) v.discharge.effective m.dischargeLimit
  let cs := excessSum m.chargeSum (-current - allowance e mc)
  let ds := excessSum m.dischargeSum (current - allowance e md)
  let top := excessThreshold e
  let m := { m with chargeLimit := mc, dischargeLimit := md }
  let d :=
    if top ≤ ds then
      { m with
        dischargeSum := 0
        overcurrent := some ⟨.discharge, ds, v.discharge.effective, md, current, now⟩ }
    else { m with dischargeSum := min 1000000 ds }
  let trips := if top ≤ ds then [FlowDirection.discharge] else []
  if top ≤ cs then
    ({ d with
       chargeSum := 0
       overcurrent := some ⟨.charge, cs, v.charge.effective, mc, current, now⟩ }, trips ++ [FlowDirection.charge])
  else ({ d with chargeSum := min 1000000 cs }, trips)

end Sys2Proof.Machine
end

