-- ==== Sys2Proof/Machine/Connection.lean ====
section
/-! DEFINITION. The Connection Sequencer (chapter 5): permits, closing, shedding, opening, trips, lockout and votes. -/

namespace Sys2Proof.Machine

/-! ## Names and classes -/

/-- A trip's class follows from its cause (R106). -/
def TripCause.class_ : TripCause → OpeningClass
  | .energyWithdrawn => .shed
  | .gridWithdrawn => .shed
  | .gridLapsed => .shed
  | .feederOpened => .shed
  | .cellOver => .hard
  | .cellUnder => .hard
  | .cellOverTemp => .hard
  | .cellLost => .hard
  | .ringSevered => .hard
  | .overcurrent => .hard
  | .auxLost => .hard
  | .remoteTrip => .hard
  | .zoneAlarm => .severe
  | .estop => .severe

/-- A class's place in the order REQUEST, FAILURE, SHED, HARD, SEVERE (R106). -/
def OpeningClass.rank : OpeningClass → Nat
  | .request => 1
  | .failure => 2
  | .shed => 3
  | .hard => 4
  | .severe => 5

/-- The journal cause of an opening cause (R101, R111). -/
def OpeningCause.journal : OpeningCause → JournalCause
  | .openRequest => .openRequest
  | .failed f => .failed f
  | .trip c => .trip c

/-- The lockout cause of an opening of class SEVERE (R111): its cause is ZONE_ALARM or ESTOP. -/
def OpeningCause.lockout : OpeningCause → LockoutCause
  | .trip .zoneAlarm => .zoneAlarm
  | _ => .estop

def LockoutCause.journal : LockoutCause → JournalCause
  | .weld => .weld
  | .weldAtStart => .weldAtStart
  | .zoneAlarm => .trip .zoneAlarm
  | .estop => .trip .estop

def CloseContext.origin (c : CloseContext) : Origin := ⟨c.port, some c.marker⟩

/-- The contactors that read closed, if any (R111, R113). -/
def contactorsClosed (neg pos : Bool) : Option Contactor :=
  match neg, pos with
  | true, true => some .both
  | true, false => some .neg
  | false, true => some .pos
  | false, false => none

/-! ## State changes (R94) -/

/-- The four lines as the connection state drives them (R94). -/
def driveConnection (c : ConnState) (o : Outputs) : Outputs :=
  match c with
  | .precharging => { o with negMain := true, precharge := true, posMain := false, gridPermissive := false }
  | .closing => { o with negMain := true, precharge := true, posMain := true, gridPermissive := false }
  | .closed => { o with negMain := true, precharge := false, posMain := true, gridPermissive := true }
  | .shedding => { o with negMain := true, precharge := false, posMain := true, gridPermissive := true }
  | _ => { o with negMain := false, precharge := false, posMain := false, gridPermissive := false }

/-- The connection takes a new state (R94): the lines follow, the Envelope Unit takes the change as a cap input and
as a monitor report (in that order, log 10), and CONNECTION is raised. -/
def enterState (new : ConnState) (s : State) : State :=
  let old := s.connection.state
  let s := { s with connection.state := new, lines.outputs := driveConnection new s.lines.outputs }
  raise .connection (monitorReport old new (capInputChanged s))

/-! ## Lockout (R112) -/

/-- Entry to LOCKOUT (R112). `origin` is the opening's marker and port; from OPEN there is none (log 37). -/
def enterLockout (cause : LockoutCause) (zone : Option Zone) (contactor : Option Contactor) (origin : Option Origin)
    (s : State) : State :=
  let s := append { kind := .lockout, cause := cause.journal, origin := origin, zone := zone } s
  let s :=
    { s with connection :=
        { s.connection with
          context := none
          negConfirmed := none
          precharge := none
          confirm := none
          shed := none
          lockout := some ⟨cause, zone, contactor, s.now⟩
          siteVote := none
          stationVote := none } }
  enterState .lockout s

/-! ## Opening (R110, R111) -/

/-- Both auxiliary contacts read open in OPENING: the opening ends (R111). -/
def endOpening (o : Opening) (s : State) : State :=
  let cause := if o.shedTimedOut then .shedTimeout else o.cause.journal
  let s := append { kind := .opened, cause := cause, origin := o.origin, zone := o.zone, location := o.location } s
  if o.class_ = .severe then enterLockout o.cause.lockout o.zone none o.origin s
  else enterState .opened { s with connection := { s.connection with context := none, confirm := none } }

/-- The check of OPENING, made at entry and at each change of an auxiliary contact (R110). -/
def openingCheck (s : State) : State :=
  match s.connection.state, s.connection.opening with
  | .opening, some o => if s.live .negAux || s.live .posAux then s else endOpening o s
  | _, _ => s

/-- OPENING with an opening record, before its first check (R110). -/
def startOpening (o : Opening) (s : State) : State :=
  enterState .opening
    { s with connection :=
        { s.connection with
          opening := some o
          negConfirmed := none
          precharge := none
          shed := none
          confirm := some s.settings.connection.confirmTime } }

/-- Entry to OPENING with an opening record, and the check made there (R110). -/
def enterOpening (o : Opening) (s : State) : State := openingCheck (startOpening o s)

/-! ## Shedding (R104) -/

/-- The break current test of SHEDDING, at entry and at each current sample (R104). -/
def shedCheck (s : State) : State :=
  match s.connection.state, s.connection.opening with
  | .shedding, some o =>
    if s.lines.sample.current.natAbs ≤ s.settings.connection.breakCurrent then enterOpening o s else s
  | _, _ => s

/-- Entry to SHEDDING with an opening record (R104). -/
def enterShedding (o : Opening) (s : State) : State :=
  let s :=
    { s with connection :=
        { s.connection with opening := some o, shed := some s.settings.connection.shedTimeout } }
  shedCheck (enterState .shedding s)

/-! ## Trips (R106 to R108) -/

/-- A journalled trip: its TRIP record and the TRIP notice (R108). -/
def journalTrip (t : Trip) (s : State) : State :=
  raise .trip
    (append { kind := .trip, cause := .trip t.cause, origin := t.origin, zone := t.zone, location := t.location } s)

/-- The opening record a trip starts (R107). -/
def Trip.opening (t : Trip) : Opening where
  class_ := t.cause.class_
  cause := .trip t.cause
  origin := t.origin
  zone := t.zone
  location := t.location
  shedTimedOut := false

/-- The opening record after a trip has taken it over: class and cause become the trip's, and a marker, zone or
location the trip carries replaces the one there (R107, log 14). -/
def Trip.upgrade (t : Trip) (o : Opening) : Opening where
  class_ := t.cause.class_
  cause := .trip t.cause
  origin := t.origin <|> o.origin
  zone := t.zone <|> o.zone
  location := t.location <|> o.location
  shedTimedOut := o.shedTimedOut

/-- A close in progress ends without closing: CLOSE_FAILED is appended with the close's marker and port (R101). -/
def journalCloseFailed (cause : JournalCause) (zone : Option Zone) (location : Option Location) (s : State) : State :=
  append
    { kind := .closeFailed, cause := cause, origin := s.connection.context.map CloseContext.origin, zone := zone
      location := location } s

/-- An abort by trip (R101): the opening record takes the trip's marker and port for a REMOTE_TRIP or a permit
withdrawal, and otherwise the close's. -/
def abortByTrip (t : Trip) (s : State) : State :=
  let origin := t.origin <|> s.connection.context.map CloseContext.origin
  let s := journalCloseFailed (.trip t.cause) t.zone t.location s
  enterOpening { t.opening with origin := origin } (journalTrip t s)

/-- A trip is taken (R107): recorded as the last trip whatever its effect, and acting by class and state. -/
def takeTrip (t : Trip) (s : State) : State :=
  let class_ := t.cause.class_
  let s :=
    { s with connection.lastTrip := some ⟨t.cause, class_, t.zone, t.location, t.contactor, s.now⟩ }
  match s.connection.state with
  | .opened =>
    if class_ = .severe then enterLockout (Trip.opening t).cause.lockout t.zone none none (journalTrip t s) else s
  | .precharging => abortByTrip t s
  | .closing => abortByTrip t s
  | .closed =>
    if class_ = .shed then enterShedding t.opening (journalTrip t s) else enterOpening t.opening (journalTrip t s)
  | .shedding =>
    if class_ = .shed then s
    else
      match s.connection.opening with
      | some o => enterOpening (t.upgrade o) (journalTrip t s)
      | none => enterOpening t.opening (journalTrip t s)
  | .opening =>
    match s.connection.opening with
    | some o =>
      if class_ ≠ .shed ∧ o.class_.rank < class_.rank then
        journalTrip t { s with connection.opening := some (t.upgrade o) }
      else s
    | none => s
  | .lockout =>
    if class_ = .severe then { s with connection := { s.connection with siteVote := none, stationVote := none } }
    else s

/-! ## Closing (R97 to R102) -/

/-- The opening record that a failure of a close starts (R101). -/
def failureOpening (f : CloseFailure) (s : State) : Opening :=
  ⟨.failure, .failed f, s.connection.context.map CloseContext.origin, none, none, false⟩

/-- A failure of a close (R101). -/
def failClose (f : CloseFailure) (s : State) : State :=
  enterOpening (failureOpening f s) (journalCloseFailed (.failed f) none none s)

/-- POS_AUX confirms in CLOSING: the close completes (R102). -/
def completeClose (s : State) : State :=
  let s := { s with connection.confirm := none }
  let s := enterState .closed s
  append { kind := .closed, cause := .close, origin := s.connection.context.map CloseContext.origin } s

/-- Entry to CLOSING (R100). -/
def enterClosing (s : State) : State :=
  let s :=
    { s with connection :=
        { s.connection with
          negConfirmed := none
          precharge := none
          confirm := some s.settings.connection.confirmTime } }
  let s := enterState .closing s
  if s.live .posAux then completeClose s else s

/-- The precharge match, against the latest line sample (R99). -/
def prechargeCheck (s : State) : State :=
  if s.connection.state = .precharging ∧ s.connection.negConfirmed = some true
      ∧ ((s.lines.sample.stringVoltage : Int) - s.lines.sample.linkVoltage).natAbs
          ≤ s.settings.connection.prechargeTolerance
  then enterClosing s else s

/-- NEG_AUX confirms in PRECHARGING: the voltage match is checked at once (R98). -/
def confirmNeg (s : State) : State :=
  prechargeCheck { s with connection := { s.connection with negConfirmed := some true, confirm := none } }

/-- Entry to PRECHARGING (R97, R98). A closed POS_AUX is looked at before NEG_AUX: with both closed the close fails
with CONTACTOR_POS (R113, log 18). -/
def enterPrecharging (context : CloseContext) (s : State) : State :=
  let s :=
    { s with connection :=
        { s.connection with
          context := some context
          negConfirmed := some false
          precharge := some (1000 * s.settings.connection.prechargeTime)
          confirm := some s.settings.connection.confirmTime } }
  let s := enterState .precharging s
  if s.live .posAux then failClose .contactorPos s
  else if s.live .negAux then confirmNeg s
  else s

/-! ## Inputs of the Connection Sequencer (R98, R100, R105, R106, R110, R113) -/

/-- A debounced change of NEG_AUX or POS_AUX, after its live level has been taken. -/
def auxChanged (c : Contactor) (level : Bool) (s : State) : State :=
  match s.connection.state with
  | .opened => if level then enterLockout .weld none (some c) none s else s
  | .precharging =>
    if s.live .posAux then failClose .contactorPos s
    else if c = .neg then
      if level then (if s.connection.negConfirmed = some true then s else confirmNeg s)
      else (if s.connection.negConfirmed = some true then failClose .contactorNeg s else s)
    else s
  | .closing =>
    if c = .pos ∧ level then completeClose s
    else if c = .neg ∧ !level then failClose .contactorNeg s
    else s
  | .closed => if level then s else takeTrip { cause := .auxLost, contactor := some c } s
  | .shedding => if level then s else takeTrip { cause := .auxLost, contactor := some c } s
  | .opening => openingCheck s
  | .lockout => s

/-- A debounced change of ESTOP (R106). -/
def estopChanged (level : Bool) (s : State) : State := if level then takeTrip { cause := .estop } s else s

/-- A debounced change of FEEDER_CLOSED (R106). -/
def feederChanged (level : Bool) (s : State) : State := if level then s else takeTrip { cause := .feederOpened } s

/-- The weld check at start, once both auxiliary contacts have started (R113). -/
def weldAtStart (s : State) : State :=
  let neg := s.lines.inputs.get .negAux
  let pos := s.lines.inputs.get .posAux
  if s.connection.state = .opened ∧ neg.started ∧ pos.started then
    match contactorsClosed neg.live pos.live with
    | some c => enterLockout .weldAtStart none (some c) none s
    | none => s
  else s

/-- A line sample reaches the Connection Sequencer (R99, R104). -/
def connectionSample (s : State) : State := prechargeCheck (shedCheck s)

/-! ## Countdown expiries

An expiry is the moment at which its countdown stands at 0; at any other moment the command does nothing (log 2). -/

/-- CONFIRM_COUNTDOWN_EXPIRY on its own (R98, R100, R110, R111). The pair of R98 stands in `execConfirmCountdownExpiry`,
beside the inputs. -/
def confirmExpired (s : State) : State :=
  if s.connection.confirm = some 0 then
    let s := { s with connection.confirm := none }
    match s.connection.state with
    | .precharging => failClose .contactorNeg s
    | .closing => failClose .contactorPos s
    | .opening =>
      match contactorsClosed (s.live .negAux) (s.live .posAux) with
      | some c => enterLockout .weld none (some c) (s.connection.opening.bind (·.origin)) s
      | none => openingCheck s
    | _ => s
  else s

/-- PRECHARGE_TIMEOUT (R99). -/
def execPrechargeTimeout (s : State) : Host.Outcome State Fault Refusal :=
  .next <|
    if s.connection.precharge = some 0 then
      let s := { s with connection.precharge := none }
      if s.connection.state = .precharging then failClose .prechargeTimeout s else s
    else s

/-- SHED_TIMEOUT (R104). -/
def execShedTimeout (s : State) : Host.Outcome State Fault Refusal :=
  .next <|
    if s.connection.shed = some 0 then
      let s := { s with connection.shed := none }
      match s.connection.state, s.connection.opening with
      | .shedding, some o => enterOpening { o with shedTimedOut := true } s
      | _, _ => s
    else s

/-! ## The permit record (R89 to R92) -/

/-- A SHED trip of the permit record, with the request's port where a request gave it. -/
def permitTrip (cause : TripCause) (port : Option PortId) (s : State) : State :=
  takeTrip { cause := cause, origin := port.map fun p => ⟨p, none⟩ } s

/-- GRID_HOLD_EXPIRY (R92). -/
def execGridHoldExpiry (s : State) : Host.Outcome State Fault Refusal :=
  .next <|
    if s.connection.permit.holdRemaining = some 0 then
      let s :=
        { s with connection.permit :=
            { s.connection.permit with grid := .lapsed, holdRemaining := none, holdGranted := none } }
      permitTrip .gridLapsed none (raise .permit s)
    else s

def EnergyPermit.code : EnergyPermit → Nat
  | .withdrawn => 1
  | .granted => 2

def GridPermit.code : GridPermit → Nat
  | .lapsed => 1
  | .valid => 2
  | .withdrawn => 3

/-- ENERGY_PERMIT with its action code: 1 GRANT, 2 WITHDRAW (R90). The answer carries the energy permit. -/
def energyPermit (p : PortId) (action : Nat) (s : State) : State × Reply :=
  let permit := s.connection.permit
  if action = 1 then
    if permit.energy = .granted then (s, .already (f1 permit.energy.code))
    else
      (raise .permit { s with connection.permit.energy := .granted }, .ok (f1 EnergyPermit.granted.code))
  else if action = 2 then
    if permit.energy = .withdrawn then (s, .already (f1 permit.energy.code))
    else
      (permitTrip .energyWithdrawn (some p) (raise .permit { s with connection.permit.energy := .withdrawn }),
       .ok (f1 EnergyPermit.withdrawn.code))
  else (s, .outOfRange (f1 permit.energy.code))

/-- The hold of a GRANT in seconds, worked out from the hold as sent (R91). -/
def workedOutHold (sent : Nat) : Nat := if sent = 0 then 300 else max 10 (min 3600 sent)

/-- GRID_PERMIT with its action code: 1 GRANT, 2 WITHDRAW (R91, R92). GRANT's OK sends the hold granted without a presence
byte, since a GRANT always leaves it present, though R89 lets the field be absent (DESIGN CHOICE, log 15). -/
def gridPermit (p : PortId) (action : Nat) (hold : Nat) (s : State) : State × Reply :=
  let permit := s.connection.permit
  if action = 1 then
    let h := workedOutHold hold
    let fresh := permit.grid ≠ .valid
    let t :=
      { s with connection.permit :=
          { permit with grid := .valid, holdRemaining := some (1000 * h), holdGranted := some h } }
    (if fresh then raise .permit t else t, .ok (f1 GridPermit.valid.code ++ f2 h ++ flag (decide fresh)))
  else if action = 2 then
    if permit.grid = .withdrawn then (s, .already)
    else
      let t :=
        raise .permit
          { s with connection.permit :=
              { permit with grid := .withdrawn, holdRemaining := none, holdGranted := none } }
      (if permit.grid = .valid then permitTrip .gridWithdrawn (some p) t else t, .ok)
  else (s, .outOfRange)

def execEnergyPermitGrant (p : PortId) (action : Byte) (s : State) : Host.Outcome State Fault Refusal :=
  serve (.energyPermitGrant p action) (energyPermit p action.toNat) s

def execEnergyPermitWithdraw (p : PortId) (s : State) : Host.Outcome State Fault Refusal :=
  serve (.energyPermitWithdraw p) (energyPermit p 2) s

def execGridPermitGrant (p : PortId) (action : Byte) (hold : Word16) (s : State) :
    Host.Outcome State Fault Refusal :=
  serve (.gridPermitGrant p action hold) (gridPermit p action.toNat hold.toNat) s

def execGridPermitWithdraw (p : PortId) (hold : Word16) (s : State) : Host.Outcome State Fault Refusal :=
  serve (.gridPermitWithdraw p hold) (gridPermit p 2 hold.toNat) s

/-! ## CLOSE (R95 to R97) -/

/-- Some populated unmasked cell is LOST in the working records (R96, R114). -/
def cellLost (s : State) : Bool := s.records.cells.any fun c => c.counts && c.condition == .lost

/-- Some populated unmasked record holds a limit flag in the working records (R96). -/
def cellLimit (s : State) : Bool :=
  s.records.cells.any (fun c => c.counts && c.limit != .noFlag)
    || s.records.sensors.any (fun t => t.counts && t.overTemp)

/-- The close gates in order, each with whether it fails (R96). The reason code is the gate's number (R188). -/
def closeGates (s : State) : List Bool :=
  [ s.stateUnit.state != .run || s.stateUnit.sleepPending,
    s.connection.permit.energy == .withdrawn,
    s.connection.permit.grid != .valid,
    !s.live .feederClosed,
    s.live .estop,
    s.live .door,
    Zone.all.any (fun z => (s.zone z).state != .normal),
    cellLost s,
    cellLimit s,
    !(s.ring.state == .closed || s.ring.state == .split),
    s.envelope.charge.target == 0 && s.envelope.discharge.target == 0 ]

def ConnState.code : ConnState → Nat
  | .opened => 1
  | .precharging => 2
  | .closing => 3
  | .closed => 4
  | .shedding => 5
  | .opening => 6
  | .lockout => 7

/-- The reason code LOCKED (R188). -/
def reasonLocked : Nat := 0x10

/-- The reason code NOT_CLEAR (R188). -/
def reasonNotClear : Nat := 0x11

/-- The reason code DUPLICATE (R188). -/
def reasonDuplicate : Nat := 0x12

/-- CLOSE (R95 to R97). ALREADY carries the "in progress" flag; in CLOSED, where R95 names no flag, it is clear (DESIGN
CHOICE, log 15). -/
def closeRequest (p : PortId) (marker : Byte) (s : State) : State × Reply :=
  match s.connection.state with
  | .opened =>
    match (closeGates s).findIdx? id with
    | some k => (s, .refused (k + 1))
    | none => (enterPrecharging ⟨marker, p⟩ s, .ok (f1 ConnState.precharging.code))
  | .precharging => (s, .already (flag true))
  | .closing => (s, .already (flag true))
  | .closed => (s, .already (flag false))
  | .shedding => (s, .wrongState)
  | .opening => (s, .wrongState)
  | .lockout => (s, .refused reasonLocked)

def execClose (p : PortId) (marker : Byte) (s : State) : Host.Outcome State Fault Refusal :=
  serve (.close p marker) (closeRequest p marker) s

/-! ## OPEN and REMOTE_TRIP (R103, R109) -/

/-- OPEN (R103). The answer carries the state after the request. -/
def openString (p : PortId) (marker : Byte) (s : State) : State × Reply :=
  let o : Opening := ⟨.request, .openRequest, some ⟨p, some marker⟩, none, none, false⟩
  match s.connection.state with
  | .opened => (s, .already (f1 s.connection.state.code))
  | .precharging =>
    let t := enterOpening o (journalCloseFailed .openRequest none none s)
    (t, .ok (f1 t.connection.state.code))
  | .closing =>
    let t := enterOpening o (journalCloseFailed .openRequest none none s)
    (t, .ok (f1 t.connection.state.code))
  | .closed =>
    let t := enterShedding o s
    (t, .ok (f1 t.connection.state.code))
  | .shedding => (s, .ok (f1 s.connection.state.code))
  | .opening => (s, .ok (f1 s.connection.state.code))
  | .lockout => (s, .refused reasonLocked (f1 s.connection.state.code))

def execOpenRequest (p : PortId) (marker : Byte) (s : State) : Host.Outcome State Fault Refusal :=
  serve (.openRequest p marker) (openString p marker) s

/-- REMOTE_TRIP (R109). The OK answer carries the state after the trip. -/
def remoteTrip (p : PortId) (marker : Byte) (s : State) : State × Reply :=
  if s.connection.state.atRest then (s, .already)
  else
    let t := takeTrip { cause := .remoteTrip, origin := some ⟨p, some marker⟩ } s
    (t, .ok (f1 t.connection.state.code))

def execRemoteTrip (p : PortId) (marker : Byte) (s : State) : Host.Outcome State Fault Refusal :=
  serve (.remoteTrip p marker) (remoteTrip p marker) s

/-! ## The clear vote (R114 to R116) -/

/-- Which clear conditions fail, in R114's order: an auxiliary contact closed, a zone beyond PRE_ALARM, a lost cell. -/
def clearConditionsFailing (s : State) : List Bool :=
  [ s.live .negAux || s.live .posAux,
    Zone.all.any (fun z => (s.zone z).state.beyondPreAlarm),
    cellLost s ]

/-- A port's vote field. Only the site and the station have one. -/
def Connection.vote (c : Connection) : PortId → Option Nat
  | .site => c.siteVote
  | .station => c.stationVote
  | .converter => none

def Connection.setVote (v : Option Nat) (c : Connection) : PortId → Connection
  | .site => { c with siteVote := v }
  | .station => { c with stationVote := v }
  | .converter => c

/-- The vote partner of a port. -/
def votePartner : PortId → PortId
  | .site => .station
  | _ => .site

/-- The vote fields as sent. -/
def voteFields (c : Connection) : List Byte := optional 4 f4 c.siteVote ++ optional 4 f4 c.stationVote

/-- A vote completes the pair: the lockout ends in OPEN (R116). -/
def completeVotes (p : PortId) (s : State) : State :=
  let cause :=
    match s.connection.lockout with
    | some l => l.cause.journal
    | none => .weld
  let s := append { kind := .lockoutCleared, cause := cause, origin := some ⟨p, none⟩ } s
  enterState .opened
    { s with connection := { s.connection with lockout := none, siteVote := none, stationVote := none } }

/-- CLEAR_LOCKOUT (R114 to R116). The OK answer carries the waiting flag and the state (log 15). -/
def clearLockout (p : PortId) (s : State) : State × Reply :=
  if s.connection.state ≠ .lockout then (s, .wrongState)
  else if (clearConditionsFailing s).any id then
    (s, .refused reasonNotClear (setByte (clearConditionsFailing s) ++ voteFields s.connection))
  else if (s.connection.vote (votePartner p)).isSome then
    (completeVotes p s, .ok (flag false ++ f1 ConnState.opened.code))
  else
    ({ s with connection := s.connection.setVote (some (1000 * s.settings.connection.voteWindow)) p },
     .ok (flag true ++ f1 ConnState.lockout.code))

def execClearLockout (p : PortId) (s : State) : Host.Outcome State Fault Refusal :=
  serve (.clearLockout p) (clearLockout p) s

/-- VOTE_EXPIRY (R115): a held vote whose count has run out becomes absent. -/
def execVoteExpiry (p : PortId) (s : State) : Host.Outcome State Fault Refusal :=
  .next (if s.connection.vote p = some 0 then { s with connection := s.connection.setVote none p } else s)

end Sys2Proof.Machine
end

