-- ==== Sys2Proof/Machine/Balance.lean ====
section
/-! DEFINITION. The Balance Scheduler (chapter 3): the balance table, BALANCE, suspension and the bleed mask. -/

namespace Sys2Proof.Machine

def BalanceEntry.nonIdle (e : BalanceEntry) : Bool := e.state != .idle

/-- The entry of a cell number; a number outside the table reads IDLE and 0 (R52). -/
def State.entry (s : State) (cell : Nat) : BalanceEntry := (s.balance[cell]?).getD idleEntry

def setEntry (cell : Nat) (e : BalanceEntry) (s : State) : State := { s with balance := s.balance.set cell e }

/-- Every entry is set to IDLE (R59). -/
def clearBalance (s : State) : State := { s with balance := s.balance.map fun _ => idleEntry }

/-- A node's entry count (R51). -/
def entryCount (s : State) (p : Span) : Nat := (slice s.balance p.firstCell p.cells).countP BalanceEntry.nonIdle

/-! ## Suspension (R55, R57) -/

/-- A sensor that suspends its node's bleeds (R55, third condition). -/
def Sensor.hot (limit : Int) (t : Sensor) : Bool :=
  t.counts && (t.condition == .fresh || t.condition == .stale) && t.reading.any fun r => limit ≤ r

/-- A suspension condition holds for a cell (R55). A cell that no CSN covers is not FRESH. -/
def suspended (s : State) (cell : Nat) : Bool :=
  let image := s.records.image
  (image.cells[cell]?).all (fun c => c.condition != .fresh)
    || match cellSpan s.ring.directory cell with
      | none => true
      | some p =>
        (match p.node.zone with
          | some z => (s.zone z).state != .normal
          | none => false)
        || (slice image.sensors p.firstSensor p.sensors).any (Sensor.hot s.settings.balance.bleedTemperature)

/-- The evaluation of one entry (R55). -/
def evaluateEntry (s : State) (cell : Nat) (e : BalanceEntry) : BalanceEntry :=
  match e.state with
  | .idle => e
  | _ => { e with state := if suspended s cell then .suspended else .active }

/-- The evaluation of the entries whose cell number `which` picks (R55). -/
def evaluateBalance (which : Nat → Bool) (s : State) : State :=
  { s with balance := s.balance.mapIdx fun cell e => if which cell then evaluateEntry s cell e else e }

/-- The evaluation at a zone state change: the entries of the zone's CSNs (R55). -/
def evaluateZoneBalance (z : Zone) (s : State) : State :=
  evaluateBalance
    (fun cell =>
      match cellSpan s.ring.directory cell with
      | some p => p.node.zone == some z
      | none => false) s

/-- The floor check of a publication (R57). -/
def endAtFloor (s : State) : State :=
  { s with balance := s.balance.mapIdx fun cell e =>
      match (s.records.image.cells[cell]?).bind (·.filtered) with
      | some v => if v ≤ s.settings.balance.bleedFloor then idleEntry else e
      | none => e }

/-- The Balance Scheduler takes a publication: the floor check, then the evaluation (R46, R55, R57). -/
def balancePublication (s : State) : State := evaluateBalance (fun _ => true) (endAtFloor s)

/-! ## The bleed mask (R51, R60) -/

/-- The cells of a node in a given state, as a mask with bit 0 for its first cell. -/
def nodeMask (s : State) (p : Span) (state : BalanceState) : Word16 :=
  BitVec.ofNat 16 <|
    (slice s.balance p.firstCell p.cells).foldr (fun e acc => (if e.state = state then 1 else 0) + 2 * acc) 0

/-- The bleed mask of the node at an address (R60). -/
def bleedMask (s : State) (address : Nat) : Word16 :=
  match nodeSpan s.ring.directory address with
  | some p => nodeMask s p .active
  | none => 0

/-! ## BALANCE (R52 to R54) -/

/-- A pair's cell may bleed by the checks a grant and a replacement share (R53, third to fifth case). -/
def mayBleed (s : State) (cell : Nat) : Bool :=
  (s.records.cells[cell]?).any (fun c => c.populated && !c.masked
      && c.filtered.any fun v => s.settings.balance.bleedFloor < v)
    && (s.records.image.cells[cell]?).any fun c => c.condition == .fresh

/-- The node of a cell stands at the per-node cap (R53). -/
def atCap (s : State) (cell : Nat) : Bool :=
  match cellSpan s.ring.directory cell with
  | some p => s.settings.balance.nodeCap ≤ entryCount s p
  | none => true

/-- One pair is judged (R53, R54): the state after it, and whether it was applied. -/
def judgePair (cell minutes : Nat) (s : State) : State × Bool :=
  if Config.cellCount ≤ cell then (s, false)
  else if minutes = 0 then (setEntry cell idleEntry s, true)
  else if !mayBleed s cell then (s, false)
  else
    let e := s.entry cell
    let m := min 255 minutes
    if e.nonIdle then (setEntry cell { e with minutes := m } s, true)
    else if atCap s cell then (s, false)
    else (setEntry cell ⟨if suspended s cell then .suspended else .active, m⟩ s, true)

/-- The pairs in list order: the state after them, and whether each was applied (R52). -/
def judgePairs : List (Word16 × Word16) → State → State × List Bool
  | [], s => (s, [])
  | (c, m) :: rest, s =>
    let one := judgePair c.toNat m.toNat s
    let more := judgePairs rest one.1
    (more.1, one.2 :: more.2)

def BalanceState.code : BalanceState → Nat
  | .idle => 1
  | .active => 2
  | .suspended => 3

/-- BALANCE (R52): pairs applied, the refused bitmap, and each named cell's entry after the whole request. The bitmap is
one byte wide, and the pairs' part has no count byte before it, since the request fixes how many they are (DESIGN CHOICE,
log 15). -/
def balanceRequest (pairs : List (Word16 × Word16)) (s : State) : State × Reply :=
  if s.stateUnit.state ≠ .run then (s, .wrongState)
  else if pairs.length = 0 ∨ 8 < pairs.length then (s, .outOfRange)
  else
    let j := judgePairs pairs s
    (j.1, .ok (f1 (j.2.count true) ++ setByte (j.2.map not)
      ++ pairs.flatMap fun q => f1 (j.1.entry q.1.toNat).state.code ++ f1 (j.1.entry q.1.toNat).minutes))

def execBalance (p : PortId) (pairs : List (Word16 × Word16)) (s : State) : Host.Outcome State Fault Refusal :=
  serve (.balance p pairs) (balanceRequest pairs) s

/-! ## The minute tick (R56, R174) -/

/-- An entry at a minute tick (R56). -/
def tickEntry (e : BalanceEntry) : BalanceEntry :=
  match e.state with
  | .active => if e.minutes ≤ 1 then idleEntry else { e with minutes := e.minutes - 1 }
  | _ => e

/-- MINUTE_TICK (R174): the minute countdown starts again, and every ACTIVE entry counts down. -/
def execMinuteTick (s : State) : Host.Outcome State Fault Refusal :=
  .next { s with lines.minute := Config.minute, balance := s.balance.map tickEntry }

end Sys2Proof.Machine
end

