-- ==== Sys2Proof/Machine/Operating.lean ====
section
/-! DEFINITION. The State Unit's operating states, wakes and RESTART (chapter 9), and the Ring Controller's part in them:
a change of the ring state (R8), a cycle start (R17) and a period boundary (R16). -/

namespace Sys2Proof.Machine

/-! ## The ring state (R8) -/

def RingState.journal (r : RingState) : Entry := { kind := .ringState, cause := .ring r }

/-- The ring takes a new state; every change has the effects of R8. -/
def setRingState (new : RingState) (s : State) : State :=
  if s.ring.state = new then s
  else
    let s := append new.journal { s with ring.state := new }
    let s := capInputChanged (raise .ring s)
    if new = .severed then takeTrip { cause := .ringSevered } s else s

/-! ## Operating state changes (R176) -/

/-- The operating state takes a new value (R176): OP_STATE, the cap input, and the balance table cleared on leaving
RUN. The wake handed from DORMANT to SETUP stands with ENTER_SETUP, the one request that makes that change. -/
def setOpState (new : OpState) (origin : Option Origin) (s : State) : State :=
  let old := s.stateUnit.state
  let s := append { kind := .opState, cause := .opState new, origin := origin } { s with stateUnit.state := new }
  let s := capInputChanged s
  if old = .run then clearBalance s else s

/-! ## Ring cycles and period boundaries (R16, R17) -/

def Ring.csns (r : Ring) : List Nat := (r.directory.filter (·.kind.isCsn)).map (·.address)

def Ring.dtns (r : Ring) : List Nat := (r.directory.filter fun e => !e.kind.isCsn).map (·.address)

/-- The slot of a watch window: its current node, or a slot given to rotation (R17, log 9). -/
def Window.slot (w : Window) : Slot :=
  match w.current with
  | some a => .scan a
  | none => .rotation

/-- The slots after TOKEN of a cycle (R17). -/
def slotList (dormant : Bool) (rotation : Nat) (r : Ring) : List Slot :=
  (if dormant then [] else [r.windowA.slot, r.windowB.slot])
    ++ r.dtns.map Slot.detect ++ List.replicate (if dormant then 1 else rotation) Slot.rotation

/-- A TOKEN attempt: sent from OUT, listened for at RETURN (R1, R6). -/
def tokenAttempt : Attempt where
  job := .token
  frame := tokenFrame
  sentFrom := .out
  listensAt := .ret
  retryLeft := true
  fallback := none
  rx := none
  timeout := none

/-- A window at a cycle start: the chosen node becomes current, and in DORMANT none is (R17, R22). -/
def Window.atCycleStart (dormant : Bool) (w : Window) : Window :=
  { w with current := if dormant then none else w.chosen }

/-- The slot list is built and the cycle begins with its TOKEN slot (R17). -/
def beginCycle (s : State) : State :=
  let dormant := s.stateUnit.state == .dormant
  let r :=
    { s.ring with
      tokenLost := false
      nodeAnswered := false
      windowA := s.ring.windowA.atCycleStart dormant
      windowB := s.ring.windowB.atCycleStart dormant }
  { s with ring :=
      { r with
        cycle := some ⟨slotList dormant s.settings.ring.rotationSlots r, [], dormant⟩
        attempt := some tokenAttempt } }

/-- A cycle start taken by the State Unit while wake pending is set: the state becomes RUN before the slot list is
built, and the period countdown restarts with the ring cycle period (R182, log 12). The OP_STATE record carries no port,
whatever gave the wake (DESIGN CHOICE, log 41). -/
def wakeToRun (s : State) : State :=
  if s.stateUnit.state = .dormant ∧ s.stateUnit.wakePending then
    setOpState .run none
      { s with stateUnit.wakePending := false, ring.countdown := s.settings.ring.period }
  else s

/-- A ring cycle starts (R17, R182). -/
def startCycle (s : State) : State := beginCycle (wakeToRun s)

/-- An enumeration attempt starts (R10). -/
def startEnumeration (s : State) : State :=
  { s with ring.attempt := some enumerationAttempt }

/-- A period boundary with the period the countdown restarts with (R16). A boundary in ENUMERATING with an attempt
still on the ring is held pending (log 13). -/
def ringBoundary (period : Nat) (s : State) : State :=
  let s := { s with ring.countdown := period }
  if s.ring.state = .enumerating then
    if s.ring.attempt.isSome then { s with ring.startPending := true } else startEnumeration s
  else
    match s.ring.cycle with
    | none => startCycle s
    | some _ => { s with ring := { s.ring with overruns := bump 255 s.ring.overruns, startPending := true } }

/-- The patrol period in ms. -/
def patrolPeriod (s : State) : Nat := 1000 * s.settings.ring.patrolPeriod

/-- The period in use (R16). -/
def currentPeriod (s : State) : Nat :=
  match s.stateUnit.state with
  | .dormant => patrolPeriod s
  | _ => s.settings.ring.period

def execPeriodBoundary (s : State) : Host.Outcome State Fault Refusal := .next (ringBoundary (currentPeriod s) s)

/-- A wake handed to the Ring Controller: a period boundary with the ring cycle period (R16). -/
def ringWake (s : State) : State := ringBoundary s.settings.ring.period s

/-! ## Wake causes (R181) -/

/-- A wake cause acts on the state record as it stands (R181). -/
def wakeCause (s : State) : State :=
  match s.stateUnit.state with
  | .setup => s
  | .run => { s with stateUnit.sleepPending := false }
  | .dormant =>
    if s.stateUnit.wakePending then s else ringWake { s with stateUnit.wakePending := true }

/-- WAKE (R181). -/
def wakeRequest (s : State) : State × Reply :=
  match s.stateUnit.state with
  | .setup => (s, .wrongState)
  | .run => if s.stateUnit.sleepPending then (wakeCause s, .ok) else (s, .already)
  | .dormant => if s.stateUnit.wakePending then (s, .already) else (wakeCause s, .ok)

def execWake (p : PortId) (s : State) : Host.Outcome State Fault Refusal := serve (.wake p) wakeRequest s

/-! ## SLEEP (R180) -/

def sleepRequest (s : State) : State × Reply :=
  match s.stateUnit.state with
  | .setup => (s, .wrongState)
  | .dormant => (s, .already)
  | .run =>
    if s.stateUnit.sleepPending then (s, .already)
    else if s.connection.state.atRest then ({ s with stateUnit.sleepPending := true }, .ok)
    else (s, .wrongState)

def execSleep (p : PortId) (s : State) : Host.Outcome State Fault Refusal := serve (.sleep p) sleepRequest s

/-- The State Unit takes a cycle end: a pending sleep becomes DORMANT, and the period countdown restarts with the
patrol period (R180). The OP_STATE record carries no port (DESIGN CHOICE, log 41). -/
def sleepAtCycleEnd (s : State) : State :=
  if s.stateUnit.sleepPending then
    let s := setOpState .dormant none { s with stateUnit.sleepPending := false }
    { s with ring.countdown := patrolPeriod s }
  else s

/-! ## ENTER_SETUP (R179) -/

def enterSetupRequest (p : PortId) (s : State) : State × Reply :=
  match s.stateUnit.state with
  | .setup => (s, .already)
  | .run =>
    if s.connection.state.atRest then
      (setOpState .setup (some ⟨p, none⟩) { s with stateUnit.sleepPending := false }, .ok)
    else (s, .wrongState)
  | .dormant =>
    (ringWake (setOpState .setup (some ⟨p, none⟩) { s with stateUnit.wakePending := false }), .ok)

def execEnterSetup (p : PortId) (s : State) : Host.Outcome State Fault Refusal :=
  serve (.enterSetup p) (enterSetupRequest p) s

/-! ## ENTER_RUN (R177, R178) -/

/-- What the directory holds at an address. -/
def directoryKind (d : List DirEntry) (address : Nat) : Option NodeKind :=
  (d.find? (·.address == address)).map (·.kind)

/-- The first address at which the directory does not match the expected node map (R178, check 2). -/
def mapMismatch (s : State) : Option Nat :=
  (List.range 24).find? fun a => directoryKind s.ring.directory a != (s.settings.map.nodes[a]?).join

/-- The first populated, unmasked cell that is NONE_YET (R178, check 3). -/
def cellNotSeen (s : State) : Option Nat :=
  s.records.cells.findIdx? fun c => c.counts && c.condition == .noneYet

/-- The temperatures of a derating table are strictly ascending. -/
def ascending : List DeratingPoint → Bool
  | a :: b :: rest => decide (a.temperature < b.temperature) && ascending (b :: rest)
  | _ => true

/-- A division rounded up. -/
def ceilDiv (n d : Nat) : Nat := (n + d - 1) / d

/-- The twelve checks in order, each with whether it fails (R178). -/
def runChecks (s : State) : List (RunCheck × Bool) :=
  let c := s.settings.cell
  let e := s.settings.envelope
  let csns := s.ring.csns.length
  [ (.ringNotReady, s.ring.state != .closed || s.ring.lastResult != some .ok || s.ring.enumeratePending),
    (.nodeMap, (mapMismatch s).isSome),
    (.cellNotSeen, (cellNotSeen s).isSome),
    (.chargeTaper, decide (e.vceil < e.vtaper + 100)),
    (.dischargeKnee, decide (e.vknee < e.vfloor + 100)),
    (.tripLevels, decide (c.ovTrip < e.vceil) || decide (e.vfloor < c.uvTrip)),
    (.tableOrder, !ascending e.derating),
    (.freshnessOrder, decide (c.lostLimit ≤ c.staleLimit) || decide (c.dormantLost ≤ c.dormantStale)),
    (.staleBelowRotation, decide (c.staleLimit ≤ ceilDiv csns s.settings.ring.rotationSlots)),
    (.dormantStale, decide (c.dormantStale ≤ csns)),
    (.periodShort,
      decide (s.settings.ring.period < 4 * (3 + s.ring.dtns.length + s.settings.ring.rotationSlots))),
    (.thermalBands,
      decide (s.settings.cooling.heatOff ≤ s.settings.cooling.heatOn)
        || decide (s.settings.cooling.coolOn ≤ s.settings.cooling.coolOff)) ]

/-- A check's reason code (R188). -/
def RunCheck.code : RunCheck → Nat
  | .ringNotReady => 0x21
  | .nodeMap => 0x22
  | .cellNotSeen => 0x23
  | .chargeTaper => 0x24
  | .dischargeKnee => 0x25
  | .tripLevels => 0x26
  | .tableOrder => 0x27
  | .freshnessOrder => 0x28
  | .staleBelowRotation => 0x29
  | .dormantStale => 0x2A
  | .periodShort => 0x2B
  | .thermalBands => 0x2C

/-- What a refused answer carries after the code: the first address or cell number that failed (R177). -/
def refusalDetail (s : State) : RunCheck → List Byte
  | .nodeMap => f1 ((mapMismatch s).getD 0)
  | .cellNotSeen => f2 ((cellNotSeen s).getD 0)
  | _ => []

def OpState.code : OpState → Nat
  | .setup => 1
  | .run => 2
  | .dormant => 3

/-- ENTER_RUN (R177). -/
def enterRunRequest (p : PortId) (s : State) : State × Reply :=
  match s.stateUnit.state with
  | .run => (s, .already)
  | .dormant => (s, .wrongState)
  | .setup =>
    match (runChecks s).find? (·.2) with
    | some (c, _) =>
      ({ s with stateUnit.lastRefusal := some c }, .refused c.code (refusalDetail s c))
    | none => (setOpState .run (some ⟨p, none⟩) s, .ok (f1 OpState.run.code))

def execEnterRun (p : PortId) (s : State) : Host.Outcome State Fault Refusal :=
  serve (.enterRun p) (enterRunRequest p) s

/-! ## ENUMERATE (R9, R184) -/

/-- The Ring Controller is given the ENUMERATE request outside ENUMERATING (R9). -/
def giveEnumerate (s : State) : State :=
  match s.ring.cycle with
  | some _ => { s with ring.enumeratePending := true }
  | none => setRingState .enumerating s

def enumerateRequest (s : State) : State × Reply :=
  if s.stateUnit.state ≠ .setup then (s, .wrongState)
  else if s.ring.state = .enumerating then (s, .already)
  else (giveEnumerate s, .ok)

def execEnumerate (p : PortId) (s : State) : Host.Outcome State Fault Refusal :=
  serve (.enumerate p) enumerateRequest s

/-! ## RESTART and power-on (R183, R199) -/

/-- The reason code ZONE (R188). -/
def reasonZone : Nat := 0x07

/-- RESTART (R183). One answered OK while another restart is due leaves that one due (log 23). -/
def restartRequest (s : State) : State × Reply :=
  if !s.connection.state.atRest then (s, .wrongState)
  else if Zone.all.any (fun z => (s.zone z).state != .normal) then (s, .refused reasonZone)
  else ({ s with stateUnit.restart := if s.stateUnit.restart = .due then .due else .answered }, .ok)

def execRestart (p : PortId) (s : State) : Host.Outcome State Fault Refusal := serve (.restart p) restartRequest s

/-- The connection after a restart: a LOCKOUT and its record are kept (R93, R183). -/
def Connection.restarted (c : Connection) : Connection :=
  if c.state = .lockout then { startConnection with state := .lockout, lockout := c.lockout } else startConnection

/-- The raw levels at the terminals. -/
def rawLevels (l : Lines) : PerInput Bool := PerInput.of fun i => (l.inputs.get i).raw

/-- The part restarts (R183): every block as at power-on, but for the journal and the cursors, a LOCKOUT with its
record, and the time base with the minute countdown; then OP_STATE is appended. -/
def restarted (first : LineMeasurement) (s : State) : State :=
  let raw := rawLevels s.lines
  let t : State :=
    { State.powerOn raw first with
      connection := s.connection.restarted
      cooling := startCooling Settings.default s.now
      lines := startLines Settings.default raw (takeSample first) s.now s.lines.minute
      portUnit :=
        { ports := s.portUnit.ports.map fun p => startPort p.cursor
          journal := s.portUnit.journal
          nextSequence := s.portUnit.nextSequence }
      freeCount := s.freeCount
      pending := s.pending }
  append { kind := .opState, cause := .restart, origin := some ⟨.site, none⟩ } t

/-- RESTART_TAKEN (R183). It has an effect only when the OK of a RESTART has been sent (log 23). -/
def execRestartTaken (first : LineMeasurement) (s : State) : Host.Outcome State Fault Refusal :=
  .next (if s.stateUnit.restart = .due then restarted first s else s)

/-- POWER_ON (R199). The queue of waiting commands and the count of free choices are the model's own and stand. -/
def execPowerOn (raw : PerInput Bool) (first : LineMeasurement) (s : State) : Host.Outcome State Fault Refusal :=
  .next { State.powerOn raw first with freeCount := s.freeCount, pending := s.pending }

end Sys2Proof.Machine
end

