-- ==== Sys2Proof/Machine/Cooling.lean ====
section
/-! DEFINITION. The Thermal Controller (chapter 7): the purge latch, the mode, the outputs, the override and the
cooling health. -/

namespace Sys2Proof.Machine

/-! ## Health (R156 to R159) -/

/-- At least one condition is set. -/
def Cooling.anyCondition (c : Cooling) : Bool := c.flowCondition || c.chillerCondition || c.supplyCondition

/-- The health takes a new value (R159). -/
def setHealth (h : Health) (s : State) : State :=
  let s := raise .cooling (capInputChanged { s with cooling.health := h })
  if h = .degraded then wakeCause s else s

/-- The health follows a change of the conditions (R158); `before` says whether one was set before the change. -/
def followConditions (before : Bool) (s : State) : State :=
  match s.cooling.health, s.cooling.anyCondition with
  | .normal, true => setHealth .degraded s
  | .normal, false => s
  | .degraded, true => { s with cooling.recovery := none }
  | .degraded, false => if before then { s with cooling.recovery := some Config.recoveryTime } else s

/-- A change of the conditions, and the health after it. -/
def updateConditions (f : Cooling → Cooling) (s : State) : State :=
  followConditions s.cooling.anyCondition { s with cooling := f s.cooling }

/-- The flow rule, at a change of FLOW_OK or of the pump level (R156). -/
def flowCheck (s : State) : State :=
  if s.live .flowOk ∨ s.lines.outputs.pump = 0 then
    updateConditions (fun c => { c with flowCountdown := none, flowCondition := false }) s
  else if !s.cooling.flowCondition ∧ s.cooling.flowCountdown = none then
    { s with cooling.flowCountdown := some (1000 * s.settings.cooling.flowTimeout) }
  else s

/-- The chiller condition, at a change of CHILLER_FAULT or of CHILLER_RUN (R157). -/
def chillerCheck (s : State) : State :=
  let holds := s.live .chillerFault && s.lines.outputs.chillerRun
  updateConditions (fun c => { c with chillerCondition := holds }) s

/-- The supply condition, at a supply sample (R157). -/
def supplyCheck (supply : Option Int) (s : State) : State :=
  let limit := s.settings.cooling.supplyLimit
  updateConditions (fun c => { c with supplyCondition := supply.any fun t => limit < t }) s

/-- FLOW_COUNTDOWN_EXPIRY (R156), at a countdown of 0 (log 2). -/
def execFlowCountdownExpiry (s : State) : Host.Outcome State Fault Refusal :=
  .next <|
    if s.cooling.flowCountdown = some 0 then
      updateConditions (fun c => { c with flowCountdown := none, flowCondition := true }) s
    else s

/-- RECOVERY_COUNTDOWN_EXPIRY (R158), at a countdown of 0 (log 2). -/
def execRecoveryCountdownExpiry (s : State) : Host.Outcome State Fault Refusal :=
  .next (if s.cooling.recovery = some 0 then setHealth .normal { s with cooling.recovery := none } else s)

/-! ## Evaluation (R147, R150 to R152) -/

/-- A channel at WARN or above. -/
def Level.raised : Level → Bool
  | .quiet => false
  | _ => true

/-- The OFFGAS channels of a zone. -/
def offgasChannels (s : State) (z : Zone) : List Channel :=
  s.zones.channels.filter fun c => c.zone == some z && c.kind == some .offgas

def releasedZones (s : State) : List Zone := Zone.all.filter fun z => (s.zone z).state == .released

/-- The purge latch after an evaluation (R150). -/
def nextLatch (s : State) : Bool :=
  let released := releasedZones s
  if released.isEmpty then false
  else if !s.cooling.purgeLatch then
    released.any fun z =>
      (s.zone z).releasedFor.any (fun t => decide (1000 * s.settings.cooling.purgeDelay < t))
        && (offgasChannels s z).any fun c => c.level == .alarm
  else !released.all fun z => (offgasChannels s z).all fun c => !c.level.raised

/-- A zone in PRE_ALARM, ALARM or ABORTED with an OFFGAS channel at WARN, ALARM or CALL (R151, case 4). -/
def gasZone (s : State) (z : Zone) : Bool :=
  (match (s.zone z).state with
    | .preAlarm => true
    | .alarm => true
    | .aborted => true
    | _ => false)
    && (offgasChannels s z).any fun c => c.level.raised

/-- The mode an evaluation selects, with the purge latch after its update (R151). -/
def selectMode (latch : Bool) (s : State) : CoolingMode :=
  if Zone.all.any (fun z => (s.zone z).state == .countdown || (s.zone z).state == .held) then .seal
  else if !(releasedZones s).isEmpty then (if latch then .purge else .seal)
  else if Zone.all.any (gasZone s) then .exhaust
  else if s.cooling.override.isSome then .override
  else if s.cooling.heatRequest then .heat
  else if s.cooling.coolRequest then .cool
  else .idle

/-- The seven lines (R152). -/
structure Drive where
  rackFans : Nat
  pump : Nat
  exhaust : Nat
  condenser : Nat
  chiller : Bool
  heater : Bool
  dampers : Bool
  deriving DecidableEq, Repr

def Override.drive (o : Override) : Drive :=
  ⟨o.rackFans, o.pump, o.exhaust, o.condenser, o.chiller, o.heater, o.dampers⟩

/-- The lines of a mode (R152). -/
def driveOf (c : CoolingSettings) (demand : Nat) (override : Option Override) : CoolingMode → Drive
  | .idle => ⟨0, c.minimumLevel, 0, 0, false, false, false⟩
  | .cool => ⟨demand, demand, 0, demand, true, false, false⟩
  | .heat => ⟨2, c.heatLevel, 0, 0, false, true, false⟩
  | .exhaust => ⟨15, demand, 15, demand, true, false, true⟩
  | .seal => ⟨0, 15, 0, demand, true, false, false⟩
  | .purge => ⟨0, 15, 15, demand, true, false, true⟩
  | .override =>
    match override with
    | some o => o.drive
    | none => ⟨0, c.minimumLevel, 0, 0, false, false, false⟩

/-- The seven lines take their values; the health rules see a changed pump level or chiller line (R152, R156,
R157). -/
def driveCooling (d : Drive) (s : State) : State :=
  let o := s.lines.outputs
  let t : State :=
    { s with lines.outputs :=
        { o with
          rackFans := d.rackFans
          pump := d.pump
          exhaust := d.exhaust
          condenser := d.condenser
          chillerRun := d.chiller
          heater := d.heater
          dampersOpen := d.dampers } }
  let t := if o.pump = d.pump then t else flowCheck t
  if o.chillerRun = d.chiller then t else chillerCheck t

/-- The mode is taken, with its stamp when it changes (R151). -/
def takeMode (latch : Bool) (m : CoolingMode) (s : State) : State :=
  let c := s.cooling
  { s with cooling :=
      { c with purgeLatch := latch, mode := m, modeEntered := if m = c.mode then c.modeEntered else s.now } }

/-- An evaluation: the purge latch, the mode, the outputs (R147). -/
def evaluateCooling (s : State) : State :=
  let latch := nextLatch s
  let mode := selectMode latch s
  driveCooling (driveOf s.settings.cooling s.cooling.demand s.cooling.override mode) (takeMode latch mode s)

/-! ## Publications (R148, R149) -/

/-- A request's set test, clear test, and otherwise no change (R148). -/
def nextRequest (set_ clear : Bool) (held : Bool) : Bool := if set_ then true else if clear then false else held

/-- The demand (R149). -/
def demandOf (c : CoolingSettings) : Option Int → Nat
  | none => c.fallbackLevel
  | some t => min 15 (c.minimumLevel + (t - c.coolSetPoint).toNat * c.gain / 100)

/-- The temperatures, requests and demand of a publication (R148, R149). -/
def takeTemperatures (s : State) : State :=
  let c := s.settings.cooling
  let tmax := s.records.image.tmax
  let tmin := s.records.image.tmin
  { s with cooling :=
      { s.cooling with
        tmax := tmax
        tmin := tmin
        heatRequest :=
          nextRequest (tmin.any fun t => t < c.heatOn) (tmin.any fun t => c.heatOff ≤ t) s.cooling.heatRequest
        coolRequest :=
          nextRequest (tmax.any fun t => c.coolOn ≤ t) (tmax.any fun t => t ≤ c.coolOff) s.cooling.coolRequest
        demand := demandOf c tmax } }

/-- The Thermal Controller takes a publication (R46, R147). -/
def coolingPublication (s : State) : State := evaluateCooling (takeTemperatures s)

/-! ## The override (R153 to R155) -/

/-- A minute count held inside 1 to 60 (R154). -/
def clampDuration (n : Nat) : Nat := max 1 (min 60 n)

/-- The override record worked out from a SET's fields (R154). -/
def workedOutOverride (f : OverrideFields) : Override where
  rackFans := min 15 f.rackFans.toNat
  pump := min 15 f.pump.toNat
  exhaust := min 15 f.exhaust.toNat
  condenser := min 15 f.condenser.toNat
  chiller := f.chiller != 0
  heater := f.heater != 0
  dampers := f.dampers != 0
  duration := clampDuration f.duration.toNat
  remaining := 60000 * clampDuration f.duration.toNat

/-- The override record as sent. A switched value is sent as a flag, 1 for on or open and 0 for off or closed (DESIGN
CHOICE, log 16). -/
def overrideField (o : Override) : List Byte :=
  f1 o.rackFans ++ f1 o.pump ++ f1 o.exhaust ++ f1 o.condenser ++ flag o.chiller ++ flag o.heater ++ flag o.dampers
    ++ f1 o.duration ++ f4 o.remaining

def CoolingMode.code : CoolingMode → Nat
  | .idle => 1
  | .cool => 2
  | .heat => 3
  | .exhaust => 4
  | .seal => 5
  | .purge => 6
  | .override => 7

/-- The override record is removed, and an evaluation follows (R155). -/
def endOverride (s : State) : State := evaluateCooling { s with cooling.override := none }

/-- COOLING_OVERRIDE with its action code: 1 SET, 2 CANCEL (R154, R155). SET's OK carries the override record behind a
presence byte, and the mode (DESIGN CHOICE, log 15). -/
def coolingOverride (action : Nat) (f : OverrideFields) (s : State) : State × Reply :=
  if action = 1 then
    let t := evaluateCooling { s with cooling.override := some (workedOutOverride f) }
    (t, .ok (optional 12 overrideField t.cooling.override ++ f1 t.cooling.mode.code))
  else if action = 2 then
    if s.cooling.override.isSome then (endOverride s, .ok) else (s, .already)
  else (s, .outOfRange)

def execCoolingOverrideSet (p : PortId) (action : Byte) (f : OverrideFields) (s : State) :
    Host.Outcome State Fault Refusal :=
  serve (.coolingOverrideSet p action f) (coolingOverride action.toNat f) s

def execCoolingOverrideCancel (p : PortId) (s : State) : Host.Outcome State Fault Refusal :=
  serve (.coolingOverrideCancel p) (coolingOverride 2 ⟨0, 0, 0, 0, 0, 0, 0, 0⟩) s

/-- OVERRIDE_EXPIRY (R155): an override with nothing remaining. One that a SET has just replaced, with its count started
again, does not expire (log 2). -/
def execOverrideExpiry (s : State) : Host.Outcome State Fault Refusal :=
  .next (if s.cooling.override.any (·.remaining == 0) then endOverride s else s)

end Sys2Proof.Machine
end

