-- ==== Sys2Proof/Machine/Zones.lean ====
section
/-! DEFINITION. The Zone Unit (chapter 6): detector channels, zone flags and sources, the zone states, and the requests
that hold, abort and reset a zone. -/

namespace Sys2Proof.Machine

/-! ## Channels (R121 to R126) -/

/-- A channel just after a rebuild (R121). -/
def freshChannel (node position : Nat) (zone : Option Zone) : Channel where
  node := node
  position := position
  kind := none
  zone := zone
  value := none
  fault := some .noAnswerYet
  level := .quiet
  candidate := none
  run := 0
  reference := none
  referenceAge := 0
  lastRise := none

/-- The zone a MAP setting gives a channel of the k-th DTN, counting from 0 (R121). -/
def zoneOfSetting (k : Nat) : ChannelZone → Option Zone
  | .byNode => Zone.ofNumber (k + 1)
  | .zone z => some z
  | .unused => none

/-- The channels of the DTNs of a directory, from the k-th DTN and a channel number on (R120, R121). -/
def channelsFrom (m : MapSettings) : List DirEntry → Nat → Nat → List Channel
  | [], _, _ => []
  | e :: rest, k, n =>
    match e.kind with
    | .csn _ _ => channelsFrom m rest k n
    | .dtn count =>
      (List.range count).map (fun i =>
          freshChannel e.address i (zoneOfSetting k ((m.channelZones[n + i]?).getD .byNode)))
        ++ channelsFrom m rest (k + 1) (n + count)

/-- A channel goes to FAULT (R122). -/
def Channel.toFault (r : FaultReason) (c : Channel) : Channel :=
  { c with
    fault := some r, level := .quiet, candidate := none, run := 0, reference := none, referenceAge := 0
    lastRise := none }

/-- The kind of a kind code (R4). -/
def ChannelKind.ofCode : Nat → Option ChannelKind
  | 1 => some .offgas
  | 2 => some .heat
  | 3 => some .smoke
  | 4 => some .manual
  | _ => none

/-- A known kind is stored where it differs from the one held or none is held (R122). The heat reference goes with its
age (log 34). -/
def Channel.takeKind (k : ChannelKind) (c : Channel) : Channel :=
  if c.kind = some k then c
  else
    { c with
      kind := some k, level := .quiet, candidate := none, run := 0, reference := none, referenceAge := 0
      lastRise := none }

/-- A value as its kind reads it: HEAT is signed, the others are not (R4). -/
def ChannelKind.value (k : ChannelKind) (w : Word16) : Int :=
  match k with
  | .heat => w.toInt
  | _ => w.toNat

/-- A value inside its kind's range (R122). -/
def ChannelKind.inRange (k : ChannelKind) (v : Int) : Bool :=
  match k with
  | .offgas => decide (0 ≤ v) && decide (v ≤ 5000)
  | .heat => decide (-400 ≤ v) && decide (v ≤ 1250)
  | .smoke => v == 0 || v == 1
  | .manual => v == 0 || v == 1

/-- The heat rise measurement at an answer that leaves a HEAT channel HEALTHY (R124). -/
def Channel.measureRise (window : Nat) (v : Int) (c : Channel) : Channel :=
  match c.reference with
  | none => { c with reference := some v, referenceAge := 0 }
  | some r =>
    if 1000 * window ≤ c.referenceAge then { c with lastRise := some (v - r), reference := some v, referenceAge := 0 }
    else c

/-- The candidate level of a HEALTHY channel (R125). -/
def candidateLevel (f : FireSettings) (k : ChannelKind) (v : Int) (lastRise : Option Int) : Level :=
  match k with
  | .offgas => if f.offgasAlarm ≤ v then .alarm else if f.offgasWarn ≤ v then .warn else .quiet
  | .heat => if 700 ≤ v then .alarm else if lastRise.any (fun r => 80 ≤ r) then .warn else .quiet
  | .smoke => if v = 1 then .alarm else .quiet
  | .manual => if v = 1 then .call else .quiet

/-- The level follows the candidate (R126). -/
def Channel.follow (persistence : Nat) (l : Level) (c : Channel) : Channel :=
  if l = .call then { c with level := .call, candidate := none, run := 0 }
  else if l = c.level then { c with candidate := none, run := 0 }
  else
    let run := if c.candidate = some l then c.run + 1 else 1
    if persistence ≤ run then { c with level := l, candidate := none, run := 0 }
    else { c with candidate := some l, run := run }

/-- A reading of a good DETECT answer is applied to its channel (R122). -/
def Channel.apply (f : FireSettings) (r : DetectReading) (c : Channel) : Channel :=
  match ChannelKind.ofCode r.kind with
  | none => c.toFault .badKind
  | some k =>
    let c := c.takeKind k
    let v := k.value r.value
    if r.fault then c.toFault .flag
    else if !k.inRange v then c.toFault .badValue
    else
      let c := { c with fault := none, value := some v }
      let c := if k = .heat then c.measureRise f.heatRiseWindow v else c
      c.follow f.persistence (candidateLevel f k v c.lastRise)

/-! ## Zone flags and sources (R127 to R129) -/

def zoneChannels (s : State) (z : Zone) : List Channel := s.zones.channels.filter (·.zone == some z)

def Channel.healthy (c : Channel) : Bool := c.fault.isNone

/-- DEGRADED: fewer than 2 HEALTHY channels of a kind other than MANUAL (R127). -/
def degradedFlag (s : State) (z : Zone) : Bool :=
  decide ((zoneChannels s z).countP (fun c => c.healthy && c.kind != some .manual) < 2)

/-- BLIND: at least one channel, and none of them HEALTHY (R127). -/
def blindFlag (s : State) (z : Zone) : Bool :=
  !(zoneChannels s z).isEmpty && !(zoneChannels s z).any Channel.healthy

/-- A zone's flags are worked out anew; a change raises FIRE and is a cap input (R127). -/
def workOutFlags (s : State) (z : Zone) : State :=
  let r := s.zone z
  let d := degradedFlag s z
  let b := blindFlag s z
  if r.degraded = d ∧ r.blind = b then s
  else capInputChanged (raise .fire (setZone z { r with degraded := d, blind := b } s))

/-- The number of a zone's sources (R129). -/
def sourceCount (s : State) (z : Zone) : Nat :=
  (zoneChannels s z).countP (·.level == .alarm) + if (s.zone z).thermal then 1 else 0

/-- The zone is active (R129). -/
def zoneActive (s : State) (z : Zone) : Bool := (zoneChannels s z).any (·.level.raised) || (s.zone z).thermal

/-- Confirmation holds, the expiry of the single-source countdown apart (R129). -/
def zoneConfirmed (s : State) (z : Zone) : Bool :=
  decide (2 ≤ sourceCount s z) || (zoneChannels s z).any (·.level == .call)

/-- The single-source condition (R129). -/
def singleSourceHolds (s : State) (z : Zone) : Bool := (s.zone z).degraded && decide (1 ≤ sourceCount s z)

/-! ## Zone state changes (R138, R139) -/

/-- An entry to ALARM or COUNTDOWN that trips: a COUNTDOWN reached from HELD does not (R139). -/
def tripsOnEntry (old new : ZoneState) : Bool :=
  match new with
  | .alarm => true
  | .countdown => old != .held
  | _ => false

/-- The AGENT_RELEASE record of an entry to RELEASED (R138). -/
def releaseEntry (z : Zone) (r : ZoneRecord) : Entry :=
  let closed := r.lastRelease.any (·.damperClosed)
  { kind := .agentRelease, cause := if closed then .zone .released else .damperOpen, zone := some z }

/-- A zone's record takes a new state, with the agent line that goes with it (R136). -/
def placeZone (z : Zone) (r : ZoneRecord) (s : State) : State :=
  { setZone z r s with lines.outputs.agent := s.lines.outputs.agent.set z (r.state == .released) }

/-- A zone changes its state to that of the record given, with all that a change does elsewhere (R138, R139). -/
def changeZone (z : Zone) (r : ZoneRecord) (origin : Option Origin) (location : Option Location) (s : State) : State :=
  let old := (s.zone z).state
  let s := placeZone z r s
  let s :=
    append { kind := .zoneState, cause := .zone r.state, origin := origin, zone := some z, location := location } s
  let s := if r.state = .released then append (releaseEntry z r) s else s
  let s := evaluateZoneBalance z (evaluateCooling (capInputChanged (raise .fire s)))
  let s := if tripsOnEntry old r.state then takeTrip { cause := .zoneAlarm, zone := some z } s else s
  if old = .normal then wakeCause s else s

/-! ## Countdown, hold and release (R134 to R137) -/

/-- A zone's hold is active (R135). -/
def holdActive (s : State) (z : Zone) : Bool := s.live .holdSwitch || (s.zone z).stationHold

/-- The countdown of a zone expires: RELEASED (R136). -/
def releaseZone (z : Zone) (s : State) : State :=
  changeZone z
    { s.zone z with
      state := .released, stationHold := false, countdown := none, releasedFor := some 0
      lastRelease := some ⟨s.now, s.live .damperClosed⟩ } none none s

/-- COUNTDOWN becomes HELD, the countdown frozen (R135). -/
def holdZone (z : Zone) (origin : Option Origin) (s : State) : State :=
  changeZone z { s.zone z with state := .held } origin none s

/-- HELD becomes COUNTDOWN again; with nothing remaining it releases at once (R134, R135). The record of that release
carries no port: the countdown at 0 makes it, and not the request that ended the hold (DESIGN CHOICE, log 40). -/
def resumeZone (z : Zone) (origin : Option Origin) (s : State) : State :=
  let s := changeZone z { s.zone z with state := .countdown } origin none s
  if (s.zone z).countdown = some 0 then releaseZone z s else s

/-- A zone enters COUNTDOWN with the full delay, and is HELD or RELEASED at once where R134 says so. The record of that
second change carries neither port nor location (log 40). -/
def enterCountdown (z : Zone) (origin : Option Origin) (location : Option Location) (s : State) : State :=
  let delay := 1000 * s.settings.fire.releaseDelay
  let s :=
    changeZone z
      { s.zone z with
        state := .countdown, stationHold := false, countdown := some delay, clearCountdown := none
        singleSource := none } origin location s
  if s.live .holdSwitch then holdZone z none s
  else if delay = 0 then releaseZone z s
  else s

/-- A zone confirms (R134). -/
def confirmZone (z : Zone) (origin : Option Origin) (location : Option Location) (s : State) : State :=
  if s.settings.fire.arming.get z then enterCountdown z origin location s
  else
    changeZone z { s.zone z with state := .alarm, clearCountdown := none, singleSource := none } origin location s

/-! ## Evaluation (R131 to R133, R137) -/

/-- What made an evaluation: the channels whose level changed to one that makes the zone active, those whose level
change can have made the confirmation, those whose level became CALL, the node of a thermal source now set, and the
port of a request that made the evaluation (R138). -/
structure Evidence where
  origin : Option Origin := none
  active : List Location := []
  confirming : List Location := []
  calls : List Location := []
  deriving DecidableEq, Repr

/-- The location a ZONE_STATE record takes: the one channel or node that made the change, or one of several freely
(log 8). -/
def chooseLocation (l : List Location) (s : State) : Option Location × State :=
  match l with
  | [] => (none, s)
  | [a] => (some a, s)
  | _ => (l[Config.freeChoice s.freeCount % l.length]?, { s with freeCount := s.freeCount + 1 })

/-- The single-source countdown is started, left running or removed (R133). -/
def followSingleSource (z : Zone) (s : State) : State :=
  let r := s.zone z
  let c :=
    if singleSourceHolds s z then
      match r.singleSource with
      | some c => some c
      | none => some (1000 * s.settings.fire.singleSourceDelay)
    else none
  setZone z { r with singleSource := c } s

/-- The clear countdown in PRE_ALARM (R131, R132). -/
def followClear (z : Zone) (s : State) : State :=
  let r := s.zone z
  let c :=
    if zoneActive s z then none
    else
      match r.clearCountdown with
      | some c => some c
      | none => some (1000 * s.settings.fire.clearTime)
  setZone z { r with clearCountdown := c } s

/-- The evaluation of a zone (R131), with the re-arm of an ABORTED one (R137). -/
def evaluateZone (e : Evidence) (z : Zone) (s : State) : State :=
  match (s.zone z).state with
  | .normal =>
    if zoneConfirmed s z then
      let c := chooseLocation e.confirming s
      confirmZone z e.origin c.1 c.2
    else
      let s := followSingleSource z s
      if zoneActive s z then
        let c := chooseLocation e.active s
        changeZone z { c.2.zone z with state := .preAlarm } e.origin c.1 c.2
      else s
  | .preAlarm =>
    if zoneConfirmed s z then
      let c := chooseLocation e.confirming s
      confirmZone z e.origin c.1 c.2
    else followClear z (followSingleSource z s)
  | .aborted =>
    if e.calls.isEmpty then s
    else
      let c := chooseLocation e.calls s
      enterCountdown z e.origin c.1 c.2
  | _ => s

/-! ## Deliveries, failures, rebuilds and publications -/

/-- The channels of a zone whose level changed, by number, to a level that `which` picks. -/
def movedChannels (old new : List Channel) (z : Zone) (which : Level → Bool) : List Location :=
  ((old.zip new).zipIdx.filter fun (p, _) =>
    p.2.zone == some z && p.1.level != p.2.level && which p.2.level).map fun (_, n) => .channel n

/-- The evidence the change of the channel table from `old` gives a zone. A channel that became ALARM can have made the
confirmation only where the zone has two sources; one that became CALL makes it by itself (R129, R138). -/
def evidenceOf (old : List Channel) (s : State) (z : Zone) : Evidence where
  active := movedChannels old s.zones.channels z Level.raised
  confirming :=
    movedChannels old s.zones.channels z fun l => l == .call || (l == .alarm && decide (2 ≤ sourceCount s z))
  calls := movedChannels old s.zones.channels z fun l => l == .call

/-- The zones of a node's channels. -/
def zonesOfNode (s : State) (node : Nat) : List Zone :=
  Zone.all.filter fun z => s.zones.channels.any fun c => c.node == node && c.zone == some z

/-- A report of a DETECT slot has changed the channels from `old`: flags, then evaluations (R122, R123),
each over the zones in the order 1 to 4 (DESIGN CHOICE, log 10). -/
def afterReport (node : Nat) (old : List Channel) (s : State) : State :=
  let zones := zonesOfNode s node
  let s := zones.foldl workOutFlags s
  zones.foldl (fun s z => evaluateZone (evidenceOf old s z) z s) s

/-- A good DETECT answer is delivered (R26, R122). -/
def detectDelivery (node : Nat) (readings : List DetectReading) (s : State) : State :=
  let old := s.zones.channels
  let apply (c : Channel) : Channel :=
    if c.node = node then
      match readings[c.position]? with
      | some r => c.apply s.settings.fire r
      | none => c
    else c
  afterReport node old { s with zones.channels := old.map apply }

/-- A failed DETECT slot is reported with the node's consecutive failures (R123). -/
def detectFailure (node failures : Nat) (s : State) : State :=
  let old := s.zones.channels
  let fail (c : Channel) : Channel := if c.node = node ∧ 3 ≤ failures then c.toFault .nodeFailed else c
  afterReport node old { s with zones.channels := old.map fail }

/-- The table is rebuilt from the new directory (R121). -/
def rebuildChannels (s : State) : State :=
  let zones := PerZone.of fun z => { s.zone z with thermal := false }
  let s := { s with zones := ⟨channelsFrom s.settings.map s.ring.directory 0 0, zones⟩ }
  let s := Zone.all.foldl workOutFlags s
  Zone.all.foldl (fun s z => evaluateZone {} z s) s

/-- The thermal-event CSNs of a zone in the published image, in address order (R128, R138). -/
def thermalNodesOf (s : State) (z : Zone) : List Nat :=
  s.records.image.summary.thermalNodes.filter fun a =>
    s.ring.directory.any fun e => e.address == a && e.zone == some z

/-- A zone's evaluation after a change of its thermal source (R128). -/
def evaluateThermal (old : PerZone ZoneRecord) (s : State) (z : Zone) : State :=
  let l := ((thermalNodesOf s z).head?.map Location.node).toList
  if (old.get z).thermal = (s.zone z).thermal then s
  else evaluateZone { active := l, confirming := l } z s

/-- The Zone Unit takes a publication (R46, R128), the zones in the order 1 to 4 (DESIGN CHOICE, log 10). -/
def zonePublication (s : State) : State :=
  let old := s.zones.zones
  let s :=
    { s with zones.zones := PerZone.of fun z => { s.zone z with thermal := !(thermalNodesOf s z).isEmpty } }
  Zone.all.foldl (evaluateThermal old) s

/-- A channel's zone is changed by a setting: the two zones' flags and evaluations (R121). A state change that follows
carries the port of the request (R138). -/
def changeChannelZone (p : PortId) (channel : Nat) (setting : ChannelZone) (s : State) : State :=
  match s.zones.channels[channel]? with
  | none => s
  | some c =>
    let k := (s.ring.dtns.findIdx? (· == c.node)).getD 0
    let new := zoneOfSetting k setting
    if new = c.zone then s
    else
      let s := { s with zones.channels := s.zones.channels.set channel { c with zone := new } }
      let zones := Zone.all.filter fun z => c.zone == some z || new == some z
      let s := zones.foldl workOutFlags s
      zones.foldl (fun s z => evaluateZone { origin := some ⟨p, none⟩ } z s) s

/-- A debounced change of HOLD_SWITCH reaches one zone (R135). -/
def holdSwitchZone (s : State) (z : Zone) : State :=
  match (s.zone z).state with
  | .countdown => if holdActive s z then holdZone z none s else s
  | .held => if holdActive s z then s else resumeZone z none s
  | _ => s

/-- A debounced change of HOLD_SWITCH (R135). -/
def holdSwitchChanged (s : State) : State := Zone.all.foldl holdSwitchZone s

/-! ## Countdown expiries

An expiry is the moment at which its countdown stands at 0; at any other moment the command does nothing (log 2). -/

/-- CLEAR_COUNTDOWN_EXPIRY (R132). -/
def execClearCountdownExpiry (z : Zone) (s : State) : Host.Outcome State Fault Refusal :=
  .next <|
    if (s.zone z).clearCountdown = some 0 then
      changeZone z { s.zone z with state := .normal, clearCountdown := none, singleSource := none } none none s
    else s

/-- SINGLE_SOURCE_EXPIRY (R133). -/
def execSingleSourceExpiry (z : Zone) (s : State) : Host.Outcome State Fault Refusal :=
  .next (if (s.zone z).singleSource = some 0 then confirmZone z none none s else s)

/-- RELEASE_COUNTDOWN_EXPIRY (R136). -/
def execReleaseCountdownExpiry (z : Zone) (s : State) : Host.Outcome State Fault Refusal :=
  .next (if (s.zone z).state = .countdown ∧ (s.zone z).countdown = some 0 then releaseZone z s else s)

/-! ## Requests (R141 to R143) -/

def ZoneState.code : ZoneState → Nat
  | .normal => 1
  | .preAlarm => 2
  | .alarm => 3
  | .countdown => 4
  | .held => 5
  | .aborted => 6
  | .released => 7

/-- A damper state as sent: CLOSED or OPEN (R130, log 16). -/
def damperCode (closed : Bool) : Nat := if closed then 1 else 2

/-- An arming as sent: ARMED or DISARMED (R191, log 16). -/
def armingCode (armed : Bool) : Nat := if armed then 1 else 2

/-- A zone's record as sent (R130, R144). -/
def zoneField (s : State) (z : Zone) : List Byte :=
  let r := s.zone z
  f1 r.state.code ++ f1 (armingCode (s.settings.fire.arming.get z)) ++ flag r.degraded ++ flag r.blind
    ++ flag r.thermal ++ flag r.stationHold ++ optional 4 f4 r.countdown ++ optional 4 f4 r.clearCountdown
    ++ optional 4 f4 r.singleSource ++ flag (s.lines.outputs.agent.get z) ++ optional 4 f4 r.releasedFor
    ++ optional 5 (fun l => bytes32 l.stamp ++ f1 (damperCode l.damperClosed)) r.lastRelease

/-- A request that names a zone: OUT_OF_RANGE outside 1 to 4 (section 6.8, log 33). -/
def zoneRequest (zone : Byte) (act : Zone → State → State × Reply) (s : State) : State × Reply :=
  match Zone.ofNumber zone.toNat with
  | none => (s, .outOfRange)
  | some z => act z s

/-- HOLD (R141). -/
def holdRequest (p : PortId) (z : Zone) (s : State) : State × Reply :=
  let r := s.zone z
  match r.state with
  | .countdown =>
    let t := holdZone z (some ⟨p, none⟩) (setZone z { r with stationHold := true } s)
    (t, .ok (zoneField t z))
  | .held =>
    if r.stationHold then (s, .already (zoneField s z))
    else
      let t := setZone z { r with stationHold := true } s
      (t, .ok (zoneField t z))
  | .released => (s, ⟨.tooLate, zoneField s z⟩)
  | _ => (s, .wrongState (zoneField s z))

def execHold (p : PortId) (zone : Byte) (s : State) : Host.Outcome State Fault Refusal :=
  serve (.hold p zone) (zoneRequest zone (holdRequest p)) s

/-- What HOLD_RELEASE answers: the zone's record and the switch level (R141). -/
def holdReleaseField (s : State) (z : Zone) : List Byte := zoneField s z ++ flag (s.live .holdSwitch)

/-- HOLD_RELEASE (R141). -/
def holdReleaseRequest (p : PortId) (z : Zone) (s : State) : State × Reply :=
  let r := s.zone z
  if (r.state == .countdown || r.state == .held) && r.stationHold then
    let t := setZone z { r with stationHold := false } s
    let t := if r.state = .held ∧ !s.live .holdSwitch then resumeZone z (some ⟨p, none⟩) t else t
    (t, .ok (holdReleaseField t z))
  else (s, .already (holdReleaseField s z))

def execHoldRelease (p : PortId) (zone : Byte) (s : State) : Host.Outcome State Fault Refusal :=
  serve (.holdRelease p zone) (zoneRequest zone (holdReleaseRequest p)) s

/-- The zone becomes ABORTED (R142). -/
def abortZone (p : PortId) (z : Zone) (s : State) : State :=
  changeZone z { s.zone z with state := .aborted, stationHold := false, countdown := none } (some ⟨p, none⟩) none s

/-- ABORT (R142). -/
def abortRequest (p : PortId) (z : Zone) (s : State) : State × Reply :=
  match (s.zone z).state with
  | .countdown => (abortZone p z s, .ok (zoneField (abortZone p z s) z))
  | .held => (abortZone p z s, .ok (zoneField (abortZone p z s) z))
  | .released => (s, ⟨.tooLate, zoneField s z⟩)
  | .aborted => (s, .already (zoneField s z))
  | _ => (s, .wrongState (zoneField s z))

def execAbort (p : PortId) (zone : Byte) (s : State) : Host.Outcome State Fault Refusal :=
  serve (.abort p zone) (zoneRequest zone (abortRequest p)) s

/-- The parts of the clear condition that fail: channels not QUIET, thermal source set, AGENT_READY false where it
counts (R143). -/
def notClear (s : State) (z : Zone) : List Bool :=
  [ (zoneChannels s z).any (·.level.raised),
    (s.zone z).thermal,
    (s.zone z).state == .released && !s.live .agentReady ]

/-- The zone returns to NORMAL by request, and is evaluated (R143). -/
def returnToNormal (p : PortId) (z : Zone) (s : State) : State :=
  let r := s.zone z
  evaluateZone {} z
    (changeZone z
      { r with
        state := .normal, stationHold := false, countdown := none, clearCountdown := none, singleSource := none
        releasedFor := none } (some ⟨p, none⟩) none s)

/-- RESET_ZONE (R143). REFUSED carries the failing parts before the zone's record (DESIGN CHOICE, log 15). -/
def resetZoneRequest (p : PortId) (z : Zone) (s : State) : State × Reply :=
  match (s.zone z).state with
  | .normal => (s, .already (zoneField s z))
  | .countdown => (s, .wrongState (zoneField s z))
  | .held => (s, .wrongState (zoneField s z))
  | _ =>
    if (notClear s z).any id then (s, .refused reasonNotClear (setByte (notClear s z) ++ zoneField s z))
    else (returnToNormal p z s, .ok (zoneField (returnToNormal p z s) z))

def execResetZone (p : PortId) (zone : Byte) (s : State) : Host.Outcome State Fault Refusal :=
  serve (.resetZone p zone) (zoneRequest zone (resetZoneRequest p)) s

end Sys2Proof.Machine
end

