-- ==== Sys2Proof/Machine/Watch.lean ====
section
/-! DEFINITION. The watch windows (R20, R21): the automatic choices and SET_WATCH. -/

namespace Sys2Proof.Machine

/-- The first cell that gives a voltage, counting from a cell number. -/
def firstWith (f : Cell → Option Nat) (v : Nat) (cells : List Cell) : Option Nat :=
  cells.findIdx? fun c => f c == some v

/-- The node of a cell number. -/
def nodeOfCell (d : List DirEntry) (cell : Nat) : Option Nat := (cellSpan d cell).map (·.node.address)

/-- The node of the cell with the highest voltage used by the envelope, the lowest number on a tie (R20). -/
def highestNode (s : State) : Option Nat :=
  s.records.image.vmax.bind fun v =>
    (firstWith Cell.high v s.records.image.cells).bind (nodeOfCell s.ring.directory)

/-- The node of the cell with the lowest voltage used by the envelope, the lowest number on a tie (R20). -/
def lowestNode (s : State) : Option Nat :=
  s.records.image.vmin.bind fun v =>
    (firstWith Cell.low v s.records.image.cells).bind (nodeOfCell s.ring.directory)

/-- An automatic choice that yields to a node already chosen by the other window (R20). -/
def yieldTo (other : Option Nat) (choice : Option Nat) : Option Nat := if choice = other then none else choice

/-- Window A's automatic choice: it yields to B only where B is FIXED (R20). -/
def autoA (s : State) : Option Nat :=
  match s.ring.windowB.mode with
  | .fixed => yieldTo s.ring.windowB.chosen (highestNode s)
  | .auto => highestNode s

/-- Window B's automatic choice, which yields to A (R20). -/
def autoB (s : State) : Option Nat := yieldTo s.ring.windowA.chosen (lowestNode s)

/-- A is evaluated where it is AUTO. -/
def evaluateA (s : State) : State :=
  match s.ring.windowA.mode with
  | .auto => { s with ring.windowA.chosen := autoA s }
  | .fixed => s

/-- B is evaluated where it is AUTO. -/
def evaluateB (s : State) : State :=
  match s.ring.windowB.mode with
  | .auto => { s with ring.windowB.chosen := autoB s }
  | .fixed => s

/-- The Ring Controller takes a publication: A's choice first, then B's (R20). -/
def watchPublication (s : State) : State := evaluateB (evaluateA s)

/-! ## SET_WATCH (R21) -/

def Ring.window (r : Ring) : WindowId → Window
  | .a => r.windowA
  | .b => r.windowB

def Ring.setWindow (r : Ring) (i : WindowId) (w : Window) : Ring :=
  match i with
  | .a => { r with windowA := w }
  | .b => { r with windowB := w }

def WindowId.other : WindowId → WindowId
  | .a => .b
  | .b => .a

def WindowId.ofCode : Nat → Option WindowId
  | 1 => some .a
  | 2 => some .b
  | _ => none

def WatchMode.code : WatchMode → Nat
  | .auto => 1
  | .fixed => 2

/-- A window's mode and chosen node as sent. -/
def Window.field (w : Window) : List Byte := f1 w.mode.code ++ optional 1 f1 w.chosen

/-- What an OK answer to SET_WATCH carries (R21). -/
def watchField (s : State) : List Byte := s.ring.windowA.field ++ s.ring.windowB.field

/-- An AUTO window yields when its chosen node equals the named window's (R21). -/
def yieldOther (i : WindowId) (r : Ring) : Ring :=
  let named := r.window i
  let other := r.window i.other
  if other.mode = .auto ∧ other.chosen = named.chosen then r.setWindow i.other { other with chosen := none } else r

/-- A passing SET_WATCH is applied to the named window at once (R21). -/
def applyWatch (i : WindowId) (mode : WatchMode) (address : Nat) (s : State) : State :=
  let w := s.ring.window i
  let t :=
    match mode with
    | .fixed => { s with ring := s.ring.setWindow i { w with mode := .fixed, chosen := some address } }
    | .auto =>
      let t := { s with ring := s.ring.setWindow i { w with mode := .auto } }
      match i with
      | .a => evaluateA t
      | .b => evaluateB t
  { t with ring := yieldOther i t.ring }

/-- A window is FIXED on a node. -/
def Window.fixedOn (w : Window) (address : Nat) : Bool := w.mode == .fixed && w.chosen == some address

/-- SET_WATCH with its codes: window 1 A, 2 B; mode 1 AUTO, 2 FIXED (R21). -/
def setWatch (window mode address : Nat) (s : State) : State × Reply :=
  match WindowId.ofCode window with
  | none => (s, .outOfRange)
  | some i =>
    if mode = 1 then
      let t := applyWatch i .auto address s
      (t, .ok (watchField t))
    else if mode = 2 then
      if !s.ring.csns.contains address then (s, .outOfRange)
      else if (s.ring.window i.other).fixedOn address then (s, .refused reasonDuplicate)
      else
        let t := applyWatch i .fixed address s
        (t, .ok (watchField t))
    else (s, .outOfRange)

def execSetWatchFixed (p : PortId) (window mode address : Byte) (s : State) : Host.Outcome State Fault Refusal :=
  serve (.setWatchFixed p window mode address) (setWatch window.toNat mode.toNat address.toNat) s

def execSetWatchAuto (p : PortId) (window : Byte) (s : State) : Host.Outcome State Fault Refusal :=
  serve (.setWatchAuto p window) (setWatch window.toNat 1 0) s

end Sys2Proof.Machine
end

