-- ==== Sys2Proof/Machine/Records.lean ====
section
/-! DEFINITION. The Record Unit (chapter 2): deliveries, limits, ageing, the sum check, publication, rebuild and
masks. -/

namespace Sys2Proof.Machine

/-! ## Cell steps (R32 to R36) -/

/-- The shift filter (R33); 2^(k−1) is 2^k / 2 for k from 1. -/
def filterStep (k : Nat) (x f : Nat) : Nat := ((f : Int) + ((x : Int) - f + 2 ^ (k - 1)) / (2 ^ k : Int)).toNat

def nextFiltered (k : Nat) : Option Nat → Option Nat → Option Nat
  | none, f => f
  | some x, none => some x
  | some x, some f => if k = 0 then some x else some (filterStep k x f)

/-- The difference of two codes without its sign. -/
def codeDistance (p q : Nat) : Nat := ((p : Int) - q).natAbs

/-- A sample mismatches (R34). -/
def mismatch (c : CellSettings) (converterFault : Bool) : Option Nat → Option Nat → Bool
  | some p, some q => decide (c.crossCheck < codeDistance p q) || converterFault
  | _, _ => true

/-- The cross-check of a fresh sample (R34). -/
def crossCheck (c : CellSettings) (converterFault : Bool) (r : Cell) : Cell :=
  if mismatch c converterFault r.primary r.secondary then
    let run := bump 3 r.mismatchRun
    { r with agreeRun := 0, mismatchRun := run, disagree := r.disagree || run == 3 }
  else
    let run := bump 3 r.agreeRun
    { r with mismatchRun := 0, agreeRun := run, disagree := r.disagree && run != 3 }

/-- A run after a sample: one more, or back to 0. -/
def nextRun (counts : Bool) (run : Nat) : Nat := if counts then bump 8 run else 0

/-- The over run and the OVER flag (R35). -/
def overCheck (c : CellSettings) (r : Cell) : Cell :=
  if r.limit = .over then
    let run := nextRun (r.primary.any fun p => (p : Int) < (c.ovTrip : Int) - c.hysteresis) r.overRun
    if c.persistence ≤ run then { r with limit := .noFlag, overRun := 0 } else { r with overRun := run }
  else
    let run := nextRun (r.primary.any fun p => c.ovTrip < p) r.overRun
    if c.persistence ≤ run then { r with limit := .over, overRun := 0 } else { r with overRun := run }

/-- The under run and the UNDER flag (R36). -/
def underCheck (c : CellSettings) (r : Cell) : Cell :=
  if r.limit = .under then
    let run := nextRun (r.primary.any fun p => c.uvTrip + c.hysteresis < p) r.underRun
    if c.persistence ≤ run then { r with limit := .noFlag, underRun := 0 } else { r with underRun := run }
  else
    let run := nextRun (r.primary.any fun p => p < c.uvTrip) r.underRun
    if c.persistence ≤ run then { r with limit := .under, underRun := 0 } else { r with underRun := run }

/-- What a fresh sample does to a cell record (R32 to R36). -/
def Cell.sample (c : CellSettings) (converterFault : Bool) (primary secondary : Option Nat) (r : Cell) : Cell :=
  let r :=
    { r with
      primary := primary, secondary := secondary, age := 0, sampled := true, condition := .fresh
      filtered := nextFiltered c.filterShift primary r.filtered }
  underCheck c (overCheck c (crossCheck c converterFault r))

/-! ## Sensor steps (R38 to R41) -/

/-- The first reading that is not none becomes the reference (R38). -/
def takeReference (t : Sensor) : Sensor :=
  match t.reference, t.reading with
  | none, some v => { t with reference := some v, referenceAge := 0 }
  | _, _ => t

/-- The over run and OVER_TEMP (R39). -/
def overTempCheck (c : CellSettings) (t : Sensor) : Sensor :=
  let counts := t.reading.any fun v => if t.overTemp then v < c.hardLimit - 50 else c.hardLimit ≤ v
  let run := nextRun counts t.overRun
  if c.persistence ≤ run then { t with overTemp := !t.overTemp, overRun := 0 } else { t with overRun := run }

/-- A window of the rise measurement, where this sample takes one: the rise (R40). -/
def windowRise (c : CellSettings) (t : Sensor) : Option Int :=
  match t.reference, t.reading with
  | some r, some v => if 1000 * c.riseWindow ≤ t.referenceAge then some (v - r) else none
  | _, _ => none

/-- The thermal-event flag after a sample with its window's rise, if it took one (R41). -/
def nextThermal (c : CellSettings) (rise : Option Int) (t : Sensor) : Bool :=
  let high := t.reading.any fun v => c.eventTemperature ≤ v
  match rise with
  | some r => if t.thermalEvent then decide (c.eventRise ≤ r) || high else high || decide (c.eventRise ≤ r)
  | none => t.thermalEvent || high

/-- The rise measurement and the thermal-event flag (R40, R41). -/
def riseCheck (c : CellSettings) (t : Sensor) : Sensor :=
  let rise := windowRise c t
  let t := { t with thermalEvent := nextThermal c rise t }
  match rise with
  | some r => { t with lastRise := some r, reference := t.reading, referenceAge := 0 }
  | none => t

/-- What a fresh sample does to a temperature record (R32, R38 to R41). -/
def Sensor.sample (c : CellSettings) (reading : Option Int) (t : Sensor) : Sensor :=
  let t := { t with reading := reading, age := 0, sampled := true, condition := .fresh }
  riseCheck c (overTempCheck c (takeReference t))

/-! ## Effects of a delivery (R34, R37) -/

/-- The trip of a cell limit flag. -/
def LimitFlag.tripCause : LimitFlag → Option TripCause
  | .noFlag => none
  | .over => some .cellOver
  | .under => some .cellUnder

/-- The three effects of a limit flag that becomes set (R37). -/
def limitEffects (cause : TripCause) (location : Location) (s : State) : State :=
  wakeCause (raise .cell (takeTrip { cause := cause, location := some location } s))

/-- A fresh sample of one cell, with the effects of its flags (R32 to R37). -/
def sampleCell (converterFault : Bool) (n : Nat) (reading : Option Nat × Option Nat) (s : State) : State :=
  match s.records.cells[n]? with
  | none => s
  | some old =>
    let new := old.sample s.settings.cell converterFault reading.1 reading.2
    let s := setCell n new s
    if old.masked then s
    else
      let s := if new.disagree && !old.disagree then raise .cell s else s
      match new.limit.tripCause with
      | some cause => if new.limit = old.limit then s else limitEffects cause (.cell n) s
      | none => s

/-- A fresh sample of one sensor, with the effects of OVER_TEMP (R37 to R41). -/
def sampleSensor (n : Nat) (reading : Option Int) (s : State) : State :=
  match s.records.sensors[n]? with
  | none => s
  | some old =>
    let new := old.sample s.settings.cell reading
    let s := setSensor n new s
    if !old.masked && new.overTemp && !old.overTemp then limitEffects .cellOverTemp (.sensor n) s else s

/-- The readings of a node's cells, in its order, from a cell number on. -/
def sampleCells (converterFault : Bool) : Nat → List (Option Nat × Option Nat) → State → State
  | _, [], s => s
  | n, r :: rest, s => sampleCells converterFault (n + 1) rest (sampleCell converterFault n r s)

/-- The readings of a node's sensors, in its order, from a sensor number on. -/
def sampleSensors : Nat → List (Option Int) → State → State
  | _, [], s => s
  | n, r :: rest, s => sampleSensors (n + 1) rest (sampleSensor n r s)

/-- A delivery tagged FRESH (R32). A delivery tagged REPEAT changes no record. Where several records of the node trip at
one delivery (R37), the cells come before the sensors and each in number order (DESIGN CHOICE, log 38). -/
def scanDelivery (address : Nat) (a : ScanAnswer) (s : State) : State :=
  match nodeSpan s.ring.directory address with
  | none => s
  | some p =>
    sampleSensors p.firstSensor a.temperatures (sampleCells a.status.converterFault p.firstCell a.cells s)

/-! ## Ageing (R42, R43) -/

/-- The freshness limits of a cycle end: stale, lost (R42). -/
def freshnessLimits (c : CellSettings) (dormant : Bool) : Nat × Nat :=
  if dormant then (c.dormantStale, c.dormantLost) else (c.staleLimit, c.lostLimit)

/-- The condition from the age, by the first row that holds (R42, log 35). -/
def ageCondition (limits : Nat × Nat) (age : Nat) : Condition → Condition
  | .noneYet => .noneYet
  | .lost => .lost
  | _ => if age < limits.1 then .fresh else if age < limits.2 then .stale else .lost

/-- The age after a cycle end (R42). -/
def nextAge (sampled : Bool) (condition : Condition) (age : Nat) : Nat :=
  if sampled || condition == .noneYet then age else bump 255 age

def Cell.aged (limits : Nat × Nat) (c : Cell) : Cell :=
  if !c.populated then c
  else
    let age := nextAge c.sampled c.condition c.age
    { c with age := age, sampled := false, condition := ageCondition limits age c.condition }

/-- What a sensor loses when it becomes LOST (R43). -/
def Sensor.dropReference (t : Sensor) : Sensor :=
  { t with reference := none, referenceAge := 0, lastRise := none, thermalEvent := false, overRun := 0 }

def Sensor.aged (limits : Nat × Nat) (t : Sensor) : Sensor :=
  if !t.populated then t
  else
    let age := nextAge t.sampled t.condition t.age
    let new := { t with age := age, sampled := false, condition := ageCondition limits age t.condition }
    if new.condition = .lost ∧ t.condition ≠ .lost then new.dropReference else new

/-- One cell ages (R42, R43). -/
def ageCell (limits : Nat × Nat) (s : State) (n : Nat) : State :=
  match s.records.cells[n]? with
  | none => s
  | some old =>
    let new := old.aged limits
    let s := setCell n new s
    if !old.masked && new.condition == .lost && old.condition != .lost then
      raise .cell (takeTrip { cause := .cellLost, location := some (.cell n) } s)
    else s

/-- One sensor ages (R42, R43). -/
def ageSensor (limits : Nat × Nat) (s : State) (n : Nat) : State :=
  match s.records.sensors[n]? with
  | none => s
  | some old =>
    let new := old.aged limits
    let s := setSensor n new s
    if !old.masked && new.condition == .lost && old.condition != .lost then raise .cell s else s

/-- The ageing of a cycle end (R42). The rule gives no order among the records; the model takes cells before sensors and
each table in number order, so the CELL_LOST trips of one cycle end come in ascending cell number (DESIGN CHOICE,
log 38). -/
def ageRecords (dormant : Bool) (s : State) : State :=
  let limits := freshnessLimits s.settings.cell dormant
  (List.range Config.sensorCount).foldl (ageSensor limits) ((List.range Config.cellCount).foldl (ageCell limits) s)

/-! ## The sum check (R44) -/

/-- The publication qualifies for the sum check (R44). -/
def sumQualifies (cells : List Cell) : Bool :=
  cells.any (·.populated) && cells.all fun c => !c.populated || (c.condition == .fresh && c.primary.isSome)

/-- The sum of the primary codes, in 0.1 V. -/
def cellSum (cells : List Cell) : Nat := ((cells.filter (·.populated)).filterMap (·.primary)).sum / 1000

/-- The tolerance of the sum check (R44). -/
def sumTolerance (v : Nat) : Nat := max (v * 2 / 100) 50

def sumCheck (s : State) : State :=
  let r := s.records
  let v := s.lines.sample.stringVoltage
  if !sumQualifies r.cells then s
  else if sumTolerance v < codeDistance (cellSum r.cells) v then
    let run := bump 3 r.sumMismatchRun
    let t := { s with records := { r with sumAgreeRun := 0, sumMismatchRun := run } }
    if run = 3 ∧ !r.sumMismatch then raise .cell { t with records.sumMismatch := true } else t
  else
    let run := bump 3 r.sumAgreeRun
    { s with records :=
        { r with
          sumMismatchRun := 0, sumAgreeRun := run, sumMismatch := r.sumMismatch && run != 3 } }

/-! ## Publication (R45, R46) -/

/-- The image copied from the working records (R45). -/
def imageOf (ringState : RingState) (s : State) : Image :=
  let cells := s.records.cells.map fun c => { c with sampled := false }
  let sensors := s.records.sensors.map fun t => { t with sampled := false }
  { cells := cells
    sensors := sensors
    cycle := s.records.image.cycle + 1
    stamp := s.now
    ringState := ringState
    summary := summarize s.ring.directory cells sensors s.records.sumMismatch }

/-- The image is written and handed to the five blocks, in R46's order (log 10). -/
def publish (s : State) : State :=
  let s := { s with records.image := imageOf s.ring.state s }
  balancePublication (watchPublication (zonePublication (coolingPublication (fullComputation s))))

/-- The Record Unit takes a cycle end (R42 to R46). -/
def recordsCycleEnd (dormant : Bool) (s : State) : State := publish (sumCheck (ageRecords dormant s))

/-! ## Rebuild (R30) -/

/-- A table of records: the first `n` populated, all else empty (R30). -/
def rebuildCells (n : Nat) : List Cell :=
  (List.range Config.cellCount).map fun i => { emptyCell with populated := i < n }

def rebuildSensors (n : Nat) : List Sensor :=
  (List.range Config.sensorCount).map fun i => { emptySensor with populated := i < n }

/-- The tables are rebuilt from the new directory, and the image is written without a publication (R30). -/
def rebuildRecords (s : State) : State :=
  let d := s.ring.directory
  let s :=
    { s with records :=
        { s.records with
          cells := rebuildCells (totalCells d), sensors := rebuildSensors (totalSensors d)
          sumMismatch := false, sumMismatchRun := 0, sumAgreeRun := 0 } }
  { s with records.image := imageOf s.records.image.ringState s }

/-! ## Masks (R48, R49, R58) -/

/-- One cell is masked or unmasked; whether its masked flag changed (R49, R58). "When it is unmasked" is read as the
masked flag becoming clear: an unmask of a cell that was not masked raises no CELL and is no wake cause (DESIGN CHOICE,
log 42). -/
def maskCell (on : Bool) (n : Nat) (s : State) : State × Bool :=
  match s.records.cells[n]? with
  | none => (s, false)
  | some c =>
    if c.masked = on then (s, false)
    else
      let t := setCell n { c with masked := on } s
      if on then (if (t.entry n).nonIdle then setEntry n idleEntry t else t, true)
      else if c.limit ≠ .noFlag then (wakeCause (raise .cell t), true)
      else if c.condition = .lost then (raise .cell t, true)
      else (t, true)

/-- One sensor is masked or unmasked; whether its masked flag changed (R49). An unmask of a sensor that was not masked has
no effect, as at a cell (DESIGN CHOICE, log 42). -/
def maskSensor (on : Bool) (n : Nat) (s : State) : State × Bool :=
  match s.records.sensors[n]? with
  | none => (s, false)
  | some t =>
    if t.masked = on then (s, false)
    else
      let u := setSensor n { t with masked := on } s
      if !on && t.overTemp then (wakeCause (raise .cell u), true) else (u, true)

/-- The numbers a mask request names, in order; how many masked flags changed. -/
def maskRange (one : Nat → State → State × Bool) : List Nat → State → State × Nat
  | [], s => (s, 0)
  | n :: rest, s =>
    let t := one n s
    let u := maskRange one rest t.1
    (u.1, (if t.2 then 1 else 0) + u.2)

/-- The checks and the effect of MASK for one target: its table's size, its population, and its operation. -/
def maskTarget (size : Nat) (populated : Nat → Bool) (one : Nat → State → State × Bool) (first count : Nat)
    (s : State) : State × Reply :=
  let numbers := List.range' first count
  if size < first + count then (s, .outOfRange)
  else if !numbers.all populated then (s, .outOfRange)
  else
    let t := maskRange one numbers s
    (t.1, .ok (f1 t.2))

/-- MASK with its action code: 1 MASK, 2 UNMASK; target 1 CELL, 2 SENSOR (R48). The number of changed records goes with
OK alone; every other status has an empty payload (DESIGN CHOICE, log 15). -/
def maskRequest (target first count action : Nat) (s : State) : State × Reply :=
  if s.stateUnit.state ≠ .setup ∧ !s.connection.state.atRest then (s, .wrongState)
  else if !(action == 1 || action == 2) || count == 0 || decide (16 < count) then (s, .outOfRange)
  else
    match target with
    | 1 =>
      maskTarget Config.cellCount (fun n => (s.records.cells[n]?).any (·.populated)) (maskCell (action == 1)) first
        count s
    | 2 =>
      maskTarget Config.sensorCount (fun n => (s.records.sensors[n]?).any (·.populated)) (maskSensor (action == 1))
        first count s
    | _ => (s, .outOfRange)

def execMask (p : PortId) (target : Byte) (first : Word16) (count action : Byte) (s : State) :
    Host.Outcome State Fault Refusal :=
  serve (.mask p target first count action) (maskRequest target.toNat first.toNat count.toNat action.toNat) s

def execUnmask (p : PortId) (target : Byte) (first : Word16) (count : Byte) (s : State) :
    Host.Outcome State Fault Refusal :=
  serve (.unmask p target first count) (maskRequest target.toNat first.toNat count.toNat 2) s

end Sys2Proof.Machine
end

