-- ==== Sys2Proof/Machine/Ring.lean ====
section
/-! DEFINITION. The Ring Controller (chapter 1): slots, attempts, the frame receiver, enumeration and the cycle end. -/

namespace Sys2Proof.Machine

/-! ## Directory entries (R12) -/

def State.dirEntry (s : State) (address : Nat) : Option DirEntry :=
  s.ring.directory.find? (·.address == address)

/-- The kind and counts of the node at an address. -/
def State.nodeKind (s : State) (address : Nat) : Option NodeKind := (s.dirEntry address).map (·.kind)

/-- The entry at an address is changed. -/
def updateEntry (address : Nat) (f : DirEntry → DirEntry) (s : State) : State :=
  { s with ring.directory := s.ring.directory.map fun e => if e.address = address then f e else e }

/-- The direction that a ring port gives (R19). -/
def portDirection : RingPort → Direction
  | .out => .out
  | .ret => .ret

/-- The port a direction is tried from first (R19). -/
def Direction.firstPort : Direction → RingPort
  | .out => .out
  | .ret => .ret
  | .unknown => .out

/-! ## Attempts (R1, R18, R19) -/

/-- The request frame of a job, built as it is sent (R18, R60). -/
def requestFrame (s : State) : Job → RingFrame
  | .enumerate => enumerateFrame
  | .token => tokenFrame
  | .scan a => scanFrame a (bleedMask s a)
  | .detect a => detectFrame a

/-- An attempt at a job through given ports starts. -/
def beginAttempt (job : Job) (sent listened : RingPort) (retry : Bool) (fallback : Option RingPort) (s : State) :
    State :=
  let a : Attempt :=
    { job := job, frame := requestFrame s job, sentFrom := sent, listensAt := listened, retryLeft := retry
      fallback := fallback, rx := none, timeout := none }
  { s with ring.attempt := some a }

/-- A node slot is reached (R18, R19). -/
def beginNodeSlot (job : Job) (address : Nat) (s : State) : State :=
  if s.ring.state = .closed then beginAttempt job .out .ret true none s
  else
    let first := ((s.dirEntry address).map (·.direction.firstPort)).getD .out
    beginAttempt job first first true (some first.other) s

/-! ## Rotation (R23) -/

/-- The CSNs in the order of a walk from an address (R23). -/
def walkFrom (csns : List Nat) (a : Nat) : List Nat := csns.filter (a ≤ ·) ++ csns.filter (· < a)

/-- The next CSN after one in address order, wrapping (R23). -/
def nextCsn (csns : List Nat) (a : Nat) : Option Nat :=
  match csns.find? (a < ·) with
  | some b => some b
  | none => csns.head?

/-- The node a rotation slot takes (R23). -/
def rotationPick (r : Ring) (visited : List Nat) : Option Nat :=
  r.rotation.bind fun a =>
    (walkFrom r.csns a).find? fun c =>
      !(r.windowA.current == some c) && !(r.windowB.current == some c) && !visited.contains c

/-! ## The cycle end (R7, R27) -/

/-- The ring state is decided again where the token was lost (R7). -/
def decideRing (s : State) : State :=
  if s.ring.tokenLost then setRingState (if s.ring.nodeAnswered then .split else .severed) s else s

/-- A pending cycle start is taken: an enumeration attempt in ENUMERATING, and otherwise a cycle (R27, step 4). -/
def takePendingStart (s : State) : State :=
  if s.ring.startPending then
    let s := { s with ring.startPending := false }
    if s.ring.state = .enumerating then startEnumeration s else startCycle s
  else s

/-- A pending enumeration is entered (R9, R27, step 3). -/
def takePendingEnumeration (s : State) : State :=
  if s.ring.enumeratePending then setRingState .enumerating { s with ring.enumeratePending := false } else s

/-- The cycle end (R27). The cycle counts as in flight up to step 4 (log 11). -/
def endCycle (s : State) : State :=
  let dormant := (s.ring.cycle.map (·.dormant)).getD false
  let s := decideRing { s with ring.attempt := none }
  let s := takePendingEnumeration (sleepAtCycleEnd (recordsCycleEnd dormant s))
  takePendingStart { s with ring.cycle := none }

/-- The slots still to come: a slot starts its first attempt, an idle rotation slot takes no time, and after the last
slot the cycle ends (R17, R23). -/
def runSlots : List Slot → State → State
  | [], s => endCycle s
  | slot :: rest, s =>
    let place (visited : List Nat) (s : State) : State :=
      { s with ring.cycle := s.ring.cycle.map fun c => { c with slots := rest, visited := visited } }
    let visited := (s.ring.cycle.map (·.visited)).getD []
    match slot with
    | .token => beginAttempt .token .out .ret true none (place visited s)
    | .scan a => beginNodeSlot (.scan a) a (place visited s)
    | .detect a => beginNodeSlot (.detect a) a (place visited s)
    | .rotation =>
      match rotationPick s.ring visited with
      | none => runSlots rest (place visited s)
      | some a =>
        beginNodeSlot (.scan a) a
          { place (visited ++ [a]) s with ring.rotation := nextCsn s.ring.csns a }

/-- A slot has ended: the next one is reached. -/
def nextSlot (s : State) : State :=
  let s := { s with ring.attempt := none }
  match s.ring.cycle with
  | some c => runSlots c.slots s
  | none => s

/-! ## Enumeration (R10, R11) -/

/-- The directory of a list of descriptors (R11). -/
def newDirectory (m : MapSettings) (kinds : List NodeKind) : List DirEntry :=
  kinds.zipIdx.map fun (k, a) =>
    { address := a, kind := k, zone := if k.isCsn then some ((m.csnZones[a]?).getD .z1) else none, direction := .out
      failures := 0, crcErrors := 0, timeouts := 0, lastCounter := none, status := none }

/-- An enumeration attempt has ended with a failure (R10). A boundary held pending starts the next attempt (log 13). -/
def enumerationFailed (r : EnumResult) (s : State) : State :=
  takePendingStart { s with ring := { s.ring with attempt := none, lastResult := some r } }

/-- A successful enumeration (R11). -/
def enumerationSucceeded (kinds : List NodeKind) (s : State) : State :=
  let s :=
    { s with ring :=
        { s.ring with
          attempt := none, startPending := false, directory := newDirectory s.settings.map kinds } }
  let s := clearBalance (rebuildChannels (rebuildRecords s))
  let s :=
    { s with ring :=
        { s.ring with
          windowA := autoWindow, windowB := autoWindow, rotation := s.ring.csns.head?, lastResult := some .ok } }
  setRingState .closed s

/-- A returned ENUMERATE frame is accepted and checked (R10). -/
def enumerationReturned (payload : List Byte) (s : State) : State :=
  match checkEnumeration payload with
  | .ok kinds => enumerationSucceeded kinds s
  | .error r => enumerationFailed r s

/-! ## The TOKEN slot (R6) -/

/-- Every direction is set to OUT, and the ring is CLOSED (R6). -/
def heal (s : State) : State :=
  setRingState .closed
    { s with ring.directory := s.ring.directory.map fun e => { e with direction := .out } }

def tokenReturned (s : State) : State := nextSlot (if s.ring.state = .closed then s else heal s)

def tokenWasLost (s : State) : State :=
  let s := { s with ring.tokenLost := true }
  nextSlot (if s.ring.state = .closed then setRingState .split s else s)

/-! ## Node slots (R18, R19, R24 to R26) -/

/-- Whether a sample counter shows a fresh sample, and whether it shows a restart (R24). -/
def classify (last : Option Word16) (new : Word16) : Bool × Bool :=
  match last with
  | none => (true, false)
  | some l => (new != l, decide (0x8000 ≤ (new - l).toNat))

/-- A good answer in a node slot: the count, the direction and the node-answered flag (R18, R19). -/
def nodeAnswered (address : Nat) (port : RingPort) (s : State) : State :=
  let closed := s.ring.state == .closed
  let s :=
    updateEntry address
      (fun e => { e with failures := 0, direction := if closed then e.direction else portDirection port }) s
  { s with ring.nodeAnswered := true }

/-- A good SCAN answer (R24, R25). -/
def scanAnswered (address : Nat) (a : ScanAnswer) (s : State) : State :=
  let c := classify ((s.dirEntry address).bind (·.lastCounter)) a.counter
  let s := updateEntry address (fun e => { e with lastCounter := some a.counter, status := some a.status }) s
  let s := if c.2 then raise .ring s else s
  if c.1 then scanDelivery address a s else s

/-- A good answer is delivered (R25, R26). -/
def deliverAnswer (job : Job) (payload : List Byte) (s : State) : State :=
  match job with
  | .scan a =>
    match s.nodeKind a with
    | some (.csn cells sensors) =>
      match readScanAnswer cells sensors payload with
      | some answer => scanAnswered a answer s
      | none => s
    | _ => s
  | .detect a => detectDelivery a (readDetectAnswer payload) s
  | _ => s

/-- The address of a node slot's job. -/
def Job.address : Job → Option Nat
  | .scan a => some a
  | .detect a => some a
  | _ => none

/-- A frame is accepted in the slot it arrived in (R6, R10, R18). -/
def acceptFrame (a : Attempt) (f : RingFrame) (s : State) : State :=
  match a.job with
  | .token => tokenReturned s
  | .enumerate => enumerationReturned f.payload s
  | .scan n => nextSlot (deliverAnswer a.job f.payload (nodeAnswered n a.sentFrom s))
  | .detect n => nextSlot (deliverAnswer a.job f.payload (nodeAnswered n a.sentFrom s))

/-- A node slot has failed (R18, R19). -/
def nodeSlotFailed (job : Job) (address : Nat) (s : State) : State :=
  let closed := s.ring.state == .closed
  let s :=
    updateEntry address
      (fun e =>
        { e with failures := bump 255 e.failures, direction := if closed then e.direction else .unknown }) s
  let s :=
    match job with
    | .detect _ => detectFailure address (((s.dirEntry address).map (·.failures)).getD 0) s
    | _ => s
  nextSlot s

/-! ## Failed attempts (R10, R15) -/

/-- The failure counts against the slot's node (R15). -/
def countFailure (f : AttemptFailure) (e : DirEntry) : DirEntry :=
  match f with
  | .crc => { e with crcErrors := bump 255 e.crcErrors }
  | .length => { e with crcErrors := bump 255 e.crcErrors }
  | .shape => { e with crcErrors := bump 255 e.crcErrors }
  | .timeout => { e with timeouts := bump 255 e.timeouts }
  | .unanswered => { e with timeouts := bump 255 e.timeouts }

/-- The result of an enumeration whose last attempt failed (R10). -/
def AttemptFailure.enumResult : AttemptFailure → EnumResult
  | .timeout => .openRing
  | _ => .corrupt

/-- A slot or an enumeration attempt has no attempt left (R6, R10, R18, R19). -/
def slotFailed (f : AttemptFailure) (job : Job) (s : State) : State :=
  match job with
  | .token => tokenWasLost s
  | .enumerate => enumerationFailed f.enumResult s
  | .scan n => nodeSlotFailed job n s
  | .detect n => nodeSlotFailed job n s

/-- An attempt ends as a failure: it is counted, then repeated, or tried from the other port, or its slot fails (R15,
R19). -/
def failAttempt (f : AttemptFailure) (a : Attempt) (s : State) : State :=
  let s :=
    match a.job.address with
    | some n => updateEntry n (countFailure f) s
    | none => s
  if a.retryLeft && s.settings.ring.retry then beginAttempt a.job a.sentFrom a.listensAt false a.fallback s
  else
    match a.fallback with
    | some port => beginAttempt a.job port port true none s
    | none => slotFailed f a.job s

/-! ## The frame receiver (R13, R14) -/

/-- What a complete frame is judged to be (R14). -/
inductive Verdict
  | accepted
  | failed (f : AttemptFailure)
  | dropped
  deriving DecidableEq, Repr

/-- A frame in a node slot, by its kind code, address and length (R14). -/
def judgeNode (code address : Nat) (kind : Option NodeKind) (f : RingFrame) : Verdict :=
  if f.code = code ∧ f.address.toNat = address then
    if !f.answered then .failed .unanswered
    else
      match kind with
      | some k => if f.payload.length = answerLength k then .accepted else .failed .shape
      | none => .failed .shape
  else .dropped

/-- A complete frame judged against the slot it arrived in (R14). In a TOKEN slot and in an enumeration attempt the
answer flag is not looked at (log 21). -/
def judge (s : State) (job : Job) (f : RingFrame) (checked : Bool) : Verdict :=
  if !checked then .failed .crc
  else
    match job with
    | .token => if f.code = 1 ∧ f.address = 0xFF then .accepted else .dropped
    | .enumerate => if f.code = 2 ∧ f.address = 0xFF then .accepted else .dropped
    | .scan a => judgeNode 3 a (s.nodeKind a) f
    | .detect a => judgeNode 4 a (s.nodeKind a) f

/-- The receiver's state is replaced. -/
def setRx (a : Attempt) (rx : Option (List Byte)) (s : State) : State :=
  { s with ring.attempt := some { a with rx := rx } }

/-- The receiver takes bytes until they or the attempt end; whether the attempt ended. Bytes after its end are
discarded (log 6). -/
def feed : List Byte → State → State × Bool
  | [], s => (s, false)
  | b :: rest, s =>
    match s.ring.attempt with
    | none => (s, true)
    | some a =>
      match ringReceive a.rx b with
      | .more rx => feed rest (setRx a rx s)
      | .tooLong => (failAttempt .length a s, true)
      | .frame f checked =>
        match judge s a.job f checked with
        | .accepted => (acceptFrame a f s, true)
        | .failed r => (failAttempt r a s, true)
        | .dropped => feed rest (setRx a none s)

/-- Bytes arrive at a ring port: only those at the attempt's port are taken (R1). -/
def receiveBytes (port : RingPort) (bytes : List Byte) (s : State) : State × Bool :=
  match s.ring.attempt with
  | none => (s, true)
  | some a => if a.listensAt = port then feed bytes s else (s, false)

def execRingFrameReceived (port : RingPort) (bytes : List Byte) (s : State) : Host.Outcome State Fault Refusal :=
  .next (receiveBytes port bytes s).1

/-- The line is held idle inside a frame at a port: the frame is dropped there, and the attempt goes on (R13). -/
def idleLine (port : RingPort) (s : State) : State :=
  match s.ring.attempt with
  | some a => if a.listensAt = port then setRx a none s else s
  | none => s

def execRingFrameAbort (port : RingPort) (bytes : List Byte) (s : State) : Host.Outcome State Fault Refusal :=
  let r := receiveBytes port bytes s
  .next (if r.2 then r.1 else idleLine port r.1)

/-- The answer timeout of the attempt in flight runs out (R14). It runs once the request has been sent. -/
def answerTimedOut (s : State) : State :=
  match s.ring.attempt with
  | some a => if a.timeout.isSome then failAttempt .timeout a s else s
  | none => s

def execRingAnswerTimeout (port : RingPort) (bytes : List Byte) (s : State) : Host.Outcome State Fault Refusal :=
  let r := receiveBytes port bytes s
  .next (if r.2 then r.1 else answerTimedOut r.1)

/-- RING_REQUEST_SENT (R14): the last byte of the request frame has been sent, and the answer timeout starts. -/
def execRingRequestSent (s : State) : Host.Outcome State Fault Refusal :=
  .next <|
    match s.ring.attempt with
    | some a =>
      match a.timeout with
      | none => { s with ring.attempt := some { a with timeout := some Config.answerTimeout } }
      | some _ => s
    | none => s

end Sys2Proof.Machine
end

