-- ==== Sys2Proof/Machine/Lines.lean ====
section
/-! DEFINITION. The Line Interface (chapter 8): debouncing, change latches, deliveries of levels, and the two samples. -/

namespace Sys2Proof.Machine

def State.input (s : State) (i : Input) : InputRecord := s.lines.inputs.get i

def setInput (i : Input) (r : InputRecord) (s : State) : State :=
  { s with lines.inputs := s.lines.inputs.set i r }

/-- INPUT_EDGE (R164): the debounce countdown starts again with the input's debounce time. A level already seen is no
edge (log 24). -/
def execInputEdge (i : Input) (level : Bool) (s : State) : Host.Outcome State Fault Refusal :=
  let r := s.input i
  .next <|
    if r.raw = level then s
    else setInput i { r with raw := level, debounce := some (debounceTime s.settings i) } s

/-- A change is handed to the blocks that take it (R166). -/
def deliverChange (i : Input) (level : Bool) (s : State) : State :=
  match i with
  | .negAux => auxChanged .neg level s
  | .posAux => auxChanged .pos level s
  | .estop => estopChanged level s
  | .feederClosed => feederChanged level s
  | .holdSwitch => holdSwitchChanged s
  | .flowOk => flowCheck s
  | .chillerFault => chillerCheck s
  | .door => s
  | .agentReady => s
  | .damperClosed => s

/-- A starting level is handed over as a start: the weld check of the auxiliary contacts (R113, R165). -/
def deliverStart (i : Input) (s : State) : State :=
  match i with
  | .negAux => weldAtStart s
  | .posAux => weldAtStart s
  | _ => s

/-- A debounced change: the live level, the latch, and the delivery (R164, R166, R167). -/
def debouncedChange (i : Input) (s : State) : State :=
  let r := s.input i
  let level := r.raw
  if r.armed then
    deliverChange i level
      (raise .input
        (setInput i { r with live := level, latched := level, changed := true, armed := false, debounce := none } s))
  else deliverChange i level (setInput i { r with live := level, debounce := none } s)

/-- A starting level is taken (R165). -/
def startInputLevel (i : Input) (s : State) : State :=
  let r := s.input i
  let level := r.raw
  let t := setInput i { r with live := level, latched := level, started := true, debounce := none } s
  let t := deliverStart i t
  if level = r.live then t else deliverChange i level t

/-- The debounce countdown of an input reaches 0 (R164). One that an edge has just started again does not (log 2). -/
def debounceExpired (i : Input) (s : State) : State :=
  let r := s.input i
  if r.debounce = some 0 then
    if !r.started then startInputLevel i s
    else if r.raw = r.live then setInput i { r with debounce := none } s
    else debouncedChange i s
  else s

def execDebounceExpiry (i : Input) (s : State) : Host.Outcome State Fault Refusal := .next (debounceExpired i s)

/-! ## The confirm countdown and a change of NEG_AUX together (R98)

This stands here and not with the other expiries of the Connection Sequencer, since the Line Interface alone knows that a
change has arrived (R163, R164). -/

/-- A debounced change of an input has arrived and is still to be taken: its countdown stands at 0, and the level that
stood differs from the live level (R164). -/
def InputRecord.changeArrived (r : InputRecord) : Bool := r.started && r.debounce == some 0 && r.raw != r.live

/-- In PRECHARGING the confirm countdown has reached 0 together with a NEG_AUX change to closed (R98). -/
def confirmPair (s : State) : Bool :=
  s.connection.state == .precharging && s.connection.confirm == some 0 && (s.input .negAux).changeArrived
    && !s.live .negAux

/-- The expiry of R98's pair is taken first: the failure CONTACTOR_NEG enters OPENING, and the change that arrived with
it is taken next and finds the state OPENING, where R110's check at a change stands in for the one at entry (DEDUCED,
log 39). -/
def takeConfirmPair (s : State) : State :=
  debounceExpired .negAux
    (startOpening (failureOpening .contactorNeg s) (journalCloseFailed (.failed .contactorNeg) none none s))

/-- CONFIRM_COUNTDOWN_EXPIRY (R98, R100, R110, R111). -/
def execConfirmCountdownExpiry (s : State) : Host.Outcome State Fault Refusal :=
  .next (if confirmPair s then takeConfirmPair s else confirmExpired s)

/-! ## Samples (R169 to R171) -/

/-- The Envelope Unit takes a current sample: each accumulator that reaches its threshold gives a trip (R84 to R87). -/
def policeCurrent (s : State) : State :=
  if s.monitor.monitoring then
    let r := monitorSample s.settings.envelope s.envelope s.now s.lines.sample.current s.monitor
    r.2.foldl (fun s _ => takeTrip { cause := .overcurrent } s) { s with monitor := r.1 }
  else s

/-- LINE_SAMPLE (R169): the sample is held, and handed to the Envelope Unit and then to the Connection Sequencer
(log 10). -/
def takeLineSample (m : LineMeasurement) (s : State) : State :=
  connectionSample (policeCurrent { s with lines.sample := takeSample m })

def execLineSample (m : LineMeasurement) (s : State) : Host.Outcome State Fault Refusal := .next (takeLineSample m s)

/-- COOLANT_SAMPLE (R169): the sample is held, and the supply condition is worked out (R157, R171). -/
def takeCoolantSample (supply return_ : Option Int) (s : State) : State :=
  let c : CoolantSample := ⟨supply.bind temperatureReading, return_.bind temperatureReading⟩
  supplyCheck c.supply { s with lines.coolant := some c }

def execCoolantSample (supply return_ : Option Int) (s : State) : Host.Outcome State Fault Refusal :=
  .next (takeCoolantSample supply return_ s)

/-! ## Re-arming the latches (R168) -/

def InputRecord.rearm (r : InputRecord) : InputRecord := { r with latched := r.live, changed := false, armed := true }

/-- Every latch is re-armed with its live level (R168). -/
def rearmLatches (s : State) : State :=
  { s with lines.inputs := PerInput.of fun i => (s.input i).rearm }

end Sys2Proof.Machine
end

