-- ==== Sys2Proof/Machine/Ports.lean ====
section
/-! DEFINITION. The Port Unit (chapter 10): the receivers, the answers sent, the notice requests and the journal's reads. -/

namespace Sys2Proof.Machine

/-! ## The receivers and the answers sent (R187, R189) -/

/-- The receiver drops its frame (R187). -/
def PortRecord.dropFrame (r : PortRecord) : PortRecord :=
  { r with rx := none, gap := none, dropped := bump 255 r.dropped }

/-- One byte arrives at a port (R187). -/
def PortRecord.byte (p : PortId) (r : PortRecord) (b : Byte) : PortRecord :=
  match portReceive r.rx b with
  | .more rx => { r with rx := rx, gap := rx.map fun _ => Config.portGap }
  | .dropped => r.dropFrame
  | .request q => PortRecord.enqueue p q { r with rx := none, gap := none }

/-- Bytes arrive at a port, in order. -/
def PortRecord.bytes (p : PortId) (l : List Byte) (r : PortRecord) : PortRecord := l.foldl (PortRecord.byte p) r

/-- PORT_FRAME_RECEIVED (R187). -/
def execPortFrameReceived (p : PortId) (bytes : List Byte) (s : State) : Host.Outcome State Fault Refusal :=
  .next (setPort p ((s.port p).bytes p bytes) s)

/-- The gap countdown reaches 0: a frame in RECEIVING is dropped (R187). -/
def PortRecord.gapExpired (r : PortRecord) : PortRecord :=
  match r.rx with
  | some _ => r.dropFrame
  | none => r

/-- PORT_GAP_TIMEOUT (R187), after the bytes that arrived before it. -/
def execPortGapTimeout (p : PortId) (bytes : List Byte) (s : State) : Host.Outcome State Fault Refusal :=
  .next (setPort p ((s.port p).bytes p bytes).gapExpired s)

/-- The last byte of an answer has been sent: its request leaves the queue, and the next becomes the head (R189). -/
def PortRecord.sent (p : PortId) (r : PortRecord) : PortRecord :=
  match r.answer with
  | none => r
  | some _ => PortRecord.admitNext p { r with queue := r.queue.tail, answer := none }

/-- The answer being sent at a port is the OK of a RESTART (R183). -/
def restartAnswered (p : PortId) (s : State) : Bool :=
  p == .site && s.stateUnit.restart == .answered
    && (s.port p).answer.any fun a => a.code == 0x26 && a.status == .ok

/-- ANSWER_SENT (R189). A RESTART whose OK has been sent is due from then on (R183, log 23). -/
def execAnswerSent (p : PortId) (s : State) : Host.Outcome State Fault Refusal :=
  let t := if restartAnswered p s then { s with stateUnit.restart := .due } else s
  .next (setPort p ((s.port p).sent p) t)

/-- UNKNOWN_REQUEST (R188): a code that is no request code is answered so, and nothing changes. The Port Unit's own
checks answer for every other code; a request of a known code is handed over by its own command, so it has no owner
here. -/
def execUnknownRequest (p : PortId) (code : Byte) (payload : List Byte) (s : State) :
    Host.Outcome State Fault Refusal :=
  match portCheckOf p ⟨code, payload⟩ with
  | some status => serve (.unknownRequest p code payload) (fun s => (s, ⟨status, []⟩)) s
  | none => .next s

/-! ## Notices (R194, R195) -/

/-- A set of causes as sent. -/
def setField (set : BitVec 10) : List Byte := bytes16 (set.setWidth 16)

/-- NOTICE_MASK (R194). -/
def noticeMaskRequest (p : PortId) (w : Word16) (s : State) : State × Reply :=
  match causeSet w with
  | none => (s, .outOfRange)
  | some set => (setPort p { s.port p with enabledSet := set } s, .ok (setField set))

def execNoticeMask (p : PortId) (set : Word16) (s : State) : Host.Outcome State Fault Refusal :=
  serve (.noticeMask p set) (noticeMaskRequest p set) s

/-- The named causes leave a port's pending set (R195). -/
def PortRecord.acknowledge (set : BitVec 10) (r : PortRecord) : PortRecord :=
  { r with pendingSet := r.pendingSet &&& ~~~set }

/-- ACK (R195); naming INPUT re-arms every change latch (R168). -/
def ackRequest (p : PortId) (w : Word16) (s : State) : State × Reply :=
  match causeSet w with
  | none => (s, .outOfRange)
  | some set =>
    let r := (s.port p).acknowledge set
    let t := setPort p r s
    (if Notice.input.inSet set then rearmLatches t else t, .ok (setField r.pendingSet))

def execAck (p : PortId) (set : Word16) (s : State) : Host.Outcome State Fault Refusal :=
  serve (.ack p set) (ackRequest p set) s

/-! ## Journal codes and records (R196) -/

def JournalKind.code : JournalKind → Nat
  | .closed => 1
  | .closeFailed => 2
  | .opened => 3
  | .trip => 4
  | .lockout => 5
  | .lockoutCleared => 6
  | .zoneState => 7
  | .agentRelease => 8
  | .opState => 9
  | .ringState => 10

def TripCause.code : TripCause → Nat
  | .energyWithdrawn => 0x01
  | .gridWithdrawn => 0x02
  | .gridLapsed => 0x03
  | .feederOpened => 0x04
  | .cellOver => 0x05
  | .cellUnder => 0x06
  | .cellOverTemp => 0x07
  | .cellLost => 0x08
  | .ringSevered => 0x09
  | .overcurrent => 0x0A
  | .auxLost => 0x0B
  | .remoteTrip => 0x0C
  | .zoneAlarm => 0x0D
  | .estop => 0x0E

def RingState.code : RingState → Nat
  | .enumerating => 1
  | .closed => 2
  | .split => 3
  | .severed => 4

def JournalCause.code : JournalCause → Nat
  | .trip c => c.code
  | .close => 0x10
  | .failed .contactorNeg => 0x11
  | .failed .contactorPos => 0x12
  | .failed .prechargeTimeout => 0x13
  | .openRequest => 0x14
  | .shedTimeout => 0x15
  | .weld => 0x18
  | .weldAtStart => 0x19
  | .zone z => 0x1F + z.code
  | .damperOpen => 0x27
  | .opState o => 0x2F + o.code
  | .restart => 0x33
  | .ring r => 0x37 + r.code

/-- A location as sent: its type and its number (R196). -/
def Location.field : Location → List Byte
  | .cell n => f1 1 ++ f2 n
  | .sensor n => f1 2 ++ f2 n
  | .channel n => f1 3 ++ f2 n
  | .node n => f1 4 ++ f2 n

/-- A marker and a port as sent; a port without a marker has a marker byte of 0 (R196). -/
def Origin.field (o : Origin) : List Byte := (o.marker.getD 0) :: f1 o.port.number

/-- An absent field's bytes are zeros. -/
def bare {α : Type} (width : Nat) (write : α → List Byte) : Option α → List Byte
  | some v => write v
  | none => List.replicate width 0x00

/-- A journal record as sent, 19 bytes (R196). -/
def JournalRecord.field (r : JournalRecord) : List Byte :=
  bytes16 r.sequence ++ bytes32 r.stamp ++ f1 r.kind.code ++ f1 r.cause.code
    ++ setByte [r.origin.isSome, r.zone.isSome, r.location.isSome] ++ bare 2 Origin.field r.origin
    ++ bare 1 (fun z => f1 z.number) r.zone ++ bare 3 Location.field r.location ++ f2s r.current ++ f2 r.voltage

/-! ## READ_JOURNAL (R198) -/

/-- A port's lag (R198). -/
def journalLag (s : State) (p : PortId) : Nat := (s.portUnit.nextSequence - (s.port p).cursor).toNat

/-- READ_JOURNAL (R198): MISSED, the records, and the cursor past them. -/
def readJournalRequest (p : PortId) (s : State) : State × Reply :=
  let j := s.portUnit.journal
  let lag := journalLag s p
  let held := min lag j.length
  let records := (j.drop (j.length - held)).take 2
  let from_ : Word16 := s.portUnit.nextSequence - BitVec.ofNat 16 held
  let t := setPort p { s.port p with cursor := from_ + BitVec.ofNat 16 records.length } s
  (t, .ok (f2 (lag - held) ++ counted JournalRecord.field records))

def execReadJournal (p : PortId) (s : State) : Host.Outcome State Fault Refusal :=
  serve (.readJournal p) (readJournalRequest p) s

end Sys2Proof.Machine
end

