-- ==== Sys2Proof/Machine/Reads.lean ====
section
/-! DEFINITION. The reads (R190): what each answer carries, field by field, in the order of its owning rule. Positions
of values in their lists are coded as log 16 gives where the spec has no table of its own. -/

namespace Sys2Proof.Machine

/-! ## READ_STATE (R190) -/

/-- A check's position in R178's list. -/
def RunCheck.position : RunCheck → Nat := fun c => c.code - 0x20

/-- The operating state, the pending flags and the last refusal (R176). -/
def stateUnitField (u : StateUnit) : List Byte :=
  f1 u.state.code ++ flag u.sleepPending ++ flag u.wakePending ++ optional 1 (fun c => f1 c.position) u.lastRefusal

/-- Four counts, each written by `write`. -/
def conditionsField (write : Nat → List Byte) (c : ConditionCounts) : List Byte :=
  write c.noneYet ++ write c.fresh ++ write c.stale ++ write c.lost

/-- The image summary (R45). -/
def summaryField (i : Image) : List Byte :=
  let m := i.summary
  bytes32 i.cycle ++ bytes32 i.stamp ++ f1 i.ringState.code ++ f2 m.populatedCells ++ f1 m.populatedSensors
    ++ conditionsField f2 m.cells ++ conditionsField f1 m.sensors ++ flag m.anyStale ++ flag m.anyLost
    ++ flag m.anyDisagree ++ flag m.sumMismatch ++ flag m.anyLimit ++ counted f1 m.thermalNodes

def Health.code : Health → Nat
  | .normal => 1
  | .degraded => 2

def stateAnswer (s : State) : Reply :=
  let e := s.envelope
  let p := s.portUnit.ports
  .ok (stateUnitField s.stateUnit ++ summaryField s.records.image ++ f2 e.charge.effective
    ++ f2 e.discharge.effective ++ bytes16 e.generation ++ flag e.zeroed ++ f1 s.connection.state.code
    ++ f1 s.connection.permit.energy.code ++ f1 s.connection.permit.grid.code ++ f1 s.cooling.mode.code
    ++ f1 s.cooling.health.code ++ f1 p.site.dropped ++ f1 p.converter.dropped ++ f1 p.station.dropped
    ++ bytes32 s.now)

def execReadState (p : PortId) (s : State) : Host.Outcome State Fault Refusal :=
  serveRead (.readState p) stateAnswer s

/-! ## READ_NODES (R190) -/

def EnumResult.code : EnumResult → Nat
  | .ok => 1
  | .openRing => 2
  | .corrupt => 3
  | .tooMany => 4
  | .badDescriptor => 5

def Direction.code : Direction → Nat
  | .out => 1
  | .ret => 2
  | .unknown => 3

/-- A watch window with its current node (R5, R20). -/
def Window.fullField (w : Window) : List Byte := w.field ++ optional 1 f1 w.current

/-- The ring summary (R5). -/
def ringField (r : Ring) : List Byte :=
  f1 r.state.code ++ optional 1 (fun e => f1 e.code) r.lastResult ++ flag r.enumeratePending ++ f1 r.overruns
    ++ flag r.tokenLost ++ flag r.nodeAnswered ++ r.windowA.fullField ++ r.windowB.fullField
    ++ optional 1 f1 r.rotation

/-- A node's kind and counts. -/
def NodeKind.field : NodeKind → List Byte
  | .csn cells sensors => f1 1 ++ f1 cells ++ f1 sensors
  | .dtn channels => f1 2 ++ f1 channels

/-- The granted and suspended masks that go with a CSN's entry (R51). -/
def masksField (s : State) (e : DirEntry) : List Byte :=
  match nodeSpan s.ring.directory e.address with
  | some p => bytes16 (nodeMask s p .active) ++ bytes16 (nodeMask s p .suspended)
  | none => []

/-- A directory entry with its masks (R12, R51). -/
def dirField (s : State) (e : DirEntry) : List Byte :=
  f1 e.address ++ e.kind.field ++ optional 1 (fun z => f1 z.number) e.zone ++ f1 e.direction.code ++ f1 e.failures
    ++ f1 e.crcErrors ++ f1 e.timeouts ++ optional 2 bytes16 e.lastCounter
    ++ optional 3 (fun n => flag n.converterFault ++ bytes16 n.bleedActive) e.status ++ masksField s e

/-- READ_NODES: the ring summary, then a count and the entries asked for; a count of 0 returns the ring summary alone
(R190). -/
def nodesAnswer (first count : Nat) (s : State) : Reply :=
  if 23 < first ∨ 8 < count then .outOfRange
  else if count = 0 then .ok (ringField s.ring)
  else
    let entries := s.ring.directory.filter fun e => first ≤ e.address && e.address < first + count
    .ok (ringField s.ring ++ counted (dirField s) entries)

def execReadNodes (p : PortId) (first count : Byte) (s : State) : Host.Outcome State Fault Refusal :=
  serveRead (.readNodes p first count) (nodesAnswer first.toNat count.toNat) s

/-! ## READ_CELLS and READ_TEMPS (R47) -/

def populationCode (populated : Bool) : Nat := if populated then 1 else 2

def Condition.code : Condition → Nat
  | .noneYet => 1
  | .fresh => 2
  | .stale => 3
  | .lost => 4

def LimitFlag.code : LimitFlag → Nat
  | .noFlag => 1
  | .over => 2
  | .under => 3

def Cell.field (c : Cell) : List Byte :=
  f1 (populationCode c.populated) ++ flag c.masked ++ f1 c.condition.code ++ cellField c.primary
    ++ cellField c.secondary ++ optional 2 f2 c.filtered ++ f1 c.age ++ flag c.disagree ++ f1 c.limit.code

def Sensor.field (t : Sensor) : List Byte :=
  f1 (populationCode t.populated) ++ flag t.masked ++ f1 t.condition.code ++ temperatureField t.reading
    ++ optional 2 f2s t.reference ++ optional 2 f2s t.lastRise ++ f1 t.age ++ flag t.overTemp ++ flag t.thermalEvent

/-- A read of entries of a table: the count is 1 to 12, and the last number lies in the table (R47). The entries follow
the cycle number with no count byte before them: R190 puts one before a list of varying length, and R47 and R190 place
none here, where the request's own count fixes how many entries there are (DESIGN CHOICE, log 15). -/
def tableAnswer {α : Type} (write : α → List Byte) (table : List α) (start count : Nat) (s : State) : Reply :=
  if count = 0 ∨ 12 < count ∨ table.length < start + count then .outOfRange
  else .ok (bytes32 s.records.image.cycle ++ (slice table start count).flatMap write)

def execReadCells (p : PortId) (start : Word16) (count : Byte) (s : State) : Host.Outcome State Fault Refusal :=
  serveRead (.readCells p start count)
    (fun s => tableAnswer Cell.field s.records.image.cells start.toNat count.toNat s) s

def execReadTemps (p : PortId) (start : Word16) (count : Byte) (s : State) : Host.Outcome State Fault Refusal :=
  serveRead (.readTemps p start count)
    (fun s => tableAnswer Sensor.field s.records.image.sensors start.toNat count.toNat s) s

/-! ## READ_ENVELOPE (R81, R88) -/

def Reason.code : Reason → Nat
  | .voltage => 1
  | .temperature => 2
  | .capStale => 3
  | .capCooling => 4
  | .capDisagree => 5
  | .capZone => 6
  | .ramp => 7
  | .zeroed => 8

/-- The envelope record (R62). -/
def envelopeField (e : Envelope) : List Byte :=
  let pair (f : EnvelopeSide → Nat) : List Byte := f2 (f e.charge) ++ f2 (f e.discharge)
  f1 (if e.full then 1 else 2) ++ bytes32 e.cycle ++ bytes32 e.stamp ++ optional 2 f2 e.vmax ++ optional 2 f2 e.vmin
    ++ optional 2 f2s e.tmax ++ optional 2 f2s e.tmin ++ pair (·.voltageFactor) ++ pair (·.temperatureFactor)
    ++ pair (·.cap) ++ setByte [e.caps.stale, e.caps.cooling, e.caps.disagree, e.caps.zone] ++ pair (·.target)
    ++ pair (·.stored) ++ pair (·.effective) ++ flag e.zeroed ++ bytes16 e.generation ++ f1 e.charge.reason.code
    ++ f1 e.discharge.reason.code

def FlowDirection.code : FlowDirection → Nat
  | .charge => 1
  | .discharge => 2

/-- The overcurrent record (R82). -/
def Overcurrent.field (o : Overcurrent) : List Byte :=
  f1 o.direction.code ++ f4 o.sum.toNat ++ f2 o.effective ++ f2 o.limit ++ f2s o.current ++ bytes32 o.stamp

/-- The monitor record with the threshold in use (R88). A change of the excess budget is in use at the first sample of
the next CLOSED period; until then the threshold sent is that of the budget as it is stored (DESIGN CHOICE, log 43). -/
def monitorField (c : EnvelopeSettings) (m : Monitor) : List Byte :=
  flag m.monitoring ++ f2 m.chargeLimit ++ f2 m.dischargeLimit ++ f4 m.chargeSum ++ f4 m.dischargeSum
    ++ f4 (excessThreshold c) ++ optional 15 Overcurrent.field m.overcurrent

def envelopeAnswer (s : State) : Reply :=
  .ok (envelopeField s.envelope ++ monitorField s.settings.envelope s.monitor)

def execReadEnvelope (p : PortId) (s : State) : Host.Outcome State Fault Refusal :=
  serveRead (.readEnvelope p) envelopeAnswer s

/-! ## READ_CONNECTION (R118) -/

def LockoutCause.code : LockoutCause → Nat
  | .weld => 1
  | .weldAtStart => 2
  | .zoneAlarm => 3
  | .estop => 4

def Contactor.code : Contactor → Nat
  | .neg => 1
  | .pos => 2
  | .both => 3

def zoneNumberField (z : Option Zone) : List Byte := optional 1 (fun z => f1 z.number) z

/-- The opening record as sent (R93). Marker and port are one optional field of two bytes, with a marker byte of 0 where
the record has a port and no marker, as after a permit withdrawal (DESIGN CHOICE, log 15). -/
def Opening.field (o : Opening) : List Byte :=
  f1 o.class_.rank ++ f1 o.cause.journal.code ++ optional 2 Origin.field o.origin ++ zoneNumberField o.zone
    ++ optional 3 Location.field o.location ++ flag o.shedTimedOut

def Lockout.field (l : Lockout) : List Byte :=
  f1 l.cause.code ++ zoneNumberField l.zone ++ optional 1 (fun c => f1 c.code) l.contactor ++ bytes32 l.stamp

/-- The last trip as sent: cause, class, location, zone, contactor, time stamp. R93 says "optional location or zone" and
R105 adds the contactor with no place; the model sends three optional fields (DESIGN CHOICE, log 15). The class is sent
as its position in R106's five-class order (log 16). -/
def LastTrip.field (t : LastTrip) : List Byte :=
  f1 t.cause.code ++ f1 t.class_.rank ++ optional 3 Location.field t.location ++ zoneNumberField t.zone
    ++ optional 1 (fun c => f1 c.code) t.contactor ++ bytes32 t.stamp

/-- The connection record (R93). -/
def connectionField (c : Connection) : List Byte :=
  f1 c.state.code ++ optional 2 (fun (x : CloseContext) => x.marker :: f1 x.port.number) c.context
    ++ optional 1 flag c.negConfirmed ++ optional 4 f4 c.precharge ++ optional 4 f4 c.confirm ++ optional 4 f4 c.shed
    ++ optional 12 Opening.field c.opening ++ optional 9 Lockout.field c.lockout ++ voteFields c
    ++ optional 14 LastTrip.field c.lastTrip

/-- The permit record; the hold remaining is sent in whole seconds (R89, log 17). -/
def permitField (p : Permit) : List Byte :=
  f1 p.energy.code ++ f1 p.grid.code ++ optional 2 (fun ms => f2 (ms / 1000)) p.holdRemaining
    ++ optional 2 f2 p.holdGranted

def connectionAnswer (s : State) : Reply :=
  let l := s.lines.sample
  .ok (connectionField s.connection ++ permitField s.connection.permit ++ flag (s.live .negAux)
    ++ flag (s.live .posAux) ++ flag (s.live .feederClosed) ++ flag (s.live .estop) ++ flag (s.live .door)
    ++ f2 l.stringVoltage ++ f2 l.linkVoltage ++ flag l.saturated)

def execReadConnection (p : PortId) (s : State) : Host.Outcome State Fault Refusal :=
  serveRead (.readConnection p) connectionAnswer s

/-! ## READ_ZONES and READ_CHANNELS (R144) -/

/-- The counts of a zone's channels by health and by level (R144). -/
def zoneCounts (s : State) (z : Zone) : List Byte :=
  let l := zoneChannels s z
  f1 (l.countP Channel.healthy) ++ f1 (l.countP fun c => !c.healthy) ++ f1 (l.countP (·.level == .quiet))
    ++ f1 (l.countP (·.level == .warn)) ++ f1 (l.countP (·.level == .alarm)) ++ f1 (l.countP (·.level == .call))

def zonesAnswer (s : State) : Reply :=
  .ok (Zone.all.flatMap (zoneField s) ++ flag (s.live .holdSwitch) ++ flag (s.live .agentReady)
    ++ flag (s.live .damperClosed) ++ Zone.all.flatMap (zoneCounts s))

def execReadZones (p : PortId) (s : State) : Host.Outcome State Fault Refusal :=
  serveRead (.readZones p) zonesAnswer s

def ChannelKind.code : ChannelKind → Nat
  | .offgas => 1
  | .heat => 2
  | .smoke => 3
  | .manual => 4

def FaultReason.code : FaultReason → Nat
  | .noAnswerYet => 1
  | .flag => 2
  | .badKind => 3
  | .badValue => 4
  | .nodeFailed => 5

def Level.code : Level → Nat
  | .quiet => 1
  | .warn => 2
  | .alarm => 3
  | .call => 4

/-- A candidate's position in R120's list WARN, ALARM, QUIET (log 16). -/
def candidateCode : Level → Nat
  | .warn => 1
  | .alarm => 2
  | _ => 3

def Channel.field (c : Channel) : List Byte :=
  f1 c.node ++ f1 c.position ++ optional 1 (fun k => f1 k.code) c.kind ++ f1 ((c.zone.map (·.number)).getD 5)
    ++ optional 2 f2s c.value ++ f1 (if c.healthy then 1 else 2) ++ optional 1 (fun r => f1 r.code) c.fault
    ++ f1 c.level.code ++ optional 1 (fun l => f1 (candidateCode l)) c.candidate ++ f1 c.run
    ++ optional 2 f2s c.reference ++ f4 c.referenceAge ++ optional 2 f2s c.lastRise

/-- READ_CHANNELS (R144). The records follow one another with no count byte before them, since the request's own count
fixes how many they are (DESIGN CHOICE, log 15). -/
def channelsAnswer (first count : Nat) (s : State) : Reply :=
  if count = 0 ∨ 8 < count ∨ s.zones.channels.length < first + count then .outOfRange
  else .ok ((slice s.zones.channels first count).flatMap Channel.field)

def execReadChannels (p : PortId) (first count : Byte) (s : State) : Host.Outcome State Fault Refusal :=
  serveRead (.readChannels p first count) (channelsAnswer first.toNat count.toNat) s

/-! ## READ_INPUTS (R175) -/

def InputRecord.field (r : InputRecord) : List Byte := flag r.live ++ flag r.latched ++ flag r.changed ++ flag r.started

def LineSample.field (l : LineSample) : List Byte :=
  f2s l.current ++ f2 l.stringVoltage ++ f2 l.linkVoltage ++ flag l.saturated

def CoolantSample.field (c : CoolantSample) : List Byte := temperatureField c.supply ++ temperatureField c.return_

/-- The fifteen output lines in the order of R172, each switched one as a flag, 1 for asserted, on or open (DESIGN CHOICE,
log 16). -/
def Outputs.field (o : Outputs) : List Byte :=
  flag o.negMain ++ flag o.posMain ++ flag o.precharge ++ flag o.gridPermissive ++ o.agent.toList.flatMap flag
    ++ f1 o.rackFans ++ f1 o.pump ++ f1 o.exhaust ++ f1 o.condenser ++ flag o.chillerRun ++ flag o.heater
    ++ flag o.dampersOpen

def inputsAnswer (s : State) : Reply :=
  .ok (Input.all.flatMap (fun i => (s.input i).field) ++ s.lines.sample.field
    ++ optional 4 CoolantSample.field s.lines.coolant ++ s.lines.outputs.field ++ bytes32 s.now)

def execReadInputs (p : PortId) (s : State) : Host.Outcome State Fault Refusal :=
  serveRead (.readInputs p) inputsAnswer s

/-! ## READ_COOLING (R160) -/

/-- A coolant temperature as the Thermal Controller holds it: none until the first sample (R146, R169). -/
def coolantTemperature (s : State) (f : CoolantSample → Option Int) : Option Int := s.lines.coolant.bind f

/-- The outputs driven by the Thermal Controller (R146, R160). A switched output is sent as a flag, 1 for on or open and 0
for off or closed (DESIGN CHOICE, log 16). -/
def drivenField (o : Outputs) : List Byte :=
  f1 o.rackFans ++ f1 o.pump ++ f1 o.exhaust ++ f1 o.condenser ++ flag o.chillerRun ++ flag o.heater
    ++ flag o.dampersOpen

def coolingAnswer (s : State) : Reply :=
  let c := s.cooling
  .ok (f1 c.mode.code ++ bytes32 c.modeEntered ++ optional 2 f2s c.tmax ++ optional 2 f2s c.tmin
    ++ flag c.heatRequest ++ flag c.coolRequest ++ flag c.purgeLatch ++ f1 c.demand ++ drivenField s.lines.outputs
    ++ optional 12 overrideField c.override ++ f1 c.health.code ++ flag c.flowCondition ++ flag c.chillerCondition
    ++ flag c.supplyCondition ++ optional 4 f4 c.flowCountdown ++ optional 4 f4 c.recovery ++ flag (s.live .flowOk)
    ++ flag (s.live .chillerFault) ++ flag (s.live .damperClosed)
    ++ temperatureField (coolantTemperature s (·.supply)) ++ temperatureField (coolantTemperature s (·.return_)))

def execReadCooling (p : PortId) (s : State) : Host.Outcome State Fault Refusal :=
  serveRead (.readCooling p) coolingAnswer s

end Sys2Proof.Machine
end

