-- ==== Sys2Proof/Machine/Setting.lean ====
section
/-! DEFINITION. SET_SETTING (R185): which item a request names, the coding of its value (R191), the checks, and what a
stored value does at once. -/

namespace Sys2Proof.Machine

/-- The settings entry a SET_SETTING request names (R191). -/
inductive SettingKey
  | item (i : Item)
  | nodeMap (address : Nat)
  | csnZone (address : Nat)
  | channelZone (channel : Nat)
  | derating (point : Nat)
  | arming (z : Zone)
  deriving DecidableEq, Repr

/-- The entry of a group, an item and an index; the index is 0 for an item without entries (R191). -/
def SettingKey.ofCode (group item index : Nat) : Option SettingKey :=
  match group, item with
  | 2, 1 => if index < 24 then some (.nodeMap index) else none
  | 2, 2 => if index < 24 then some (.csnZone index) else none
  | 2, 3 => if index < 32 then some (.channelZone index) else none
  | 4, 7 => if 1 ≤ index ∧ index ≤ 6 then some (.derating (index - 1)) else none
  | 6, 1 => (Zone.ofNumber index).map .arming
  | g, i => if index = 0 then (Item.ofCode g i).map .item else none

/-- A value that a request stores. -/
inductive SettingValue
  | number (v : Int)
  | node (k : Option NodeKind)
  | csnZone (z : Zone)
  | channelZone (c : ChannelZone)
  | point (p : DeratingPoint)
  | armed (b : Bool)
  deriving DecidableEq, Repr

/-- A signed 4-byte value (R191). -/
def readNumber : List Byte → Option Int
  | [a, b, c, d] => some (a ++ b ++ c ++ d : Word32).toInt
  | _ => none

/-- A node map entry: kind NONE with both counts 0, or a node's kind and counts (R191, log 36). -/
def readNodeEntry : List Byte → Option (Option NodeKind)
  | [k, a, b] =>
    if k = 0 then (if a = 0 ∧ b = 0 then some none else none)
    else (readDescriptor k a b).map some
  | _ => none

/-- A derating point inside its ranges (section 9.6.1). -/
def readPoint : List Byte → Option DeratingPoint
  | [t1, t0, c1, c0, d1, d0] =>
    let t := (word16 t1 t0).toInt
    let c := (word16 c1 c0).toNat
    let d := (word16 d1 d0).toNat
    if -400 ≤ t ∧ t ≤ 1250 ∧ c ≤ 1024 ∧ d ≤ 1024 then some ⟨t, c, d⟩ else none
  | _ => none

/-- The zone of a channel: 0 BY_NODE, 1 to 4 the zone, 5 UNUSED (R191). -/
def readChannelZone (v : Int) : Option ChannelZone :=
  if v = 0 then some .byNode else if v = 5 then some .unused else (Zone.ofNumber v.toNat).map .zone

/-- Arming: 1 ARMED, 2 DISARMED (R191). -/
def readArming (v : Int) : Option Bool := if v = 1 then some true else if v = 2 then some false else none

/-- The value of a request for an entry; `none` where it fails the third check (R185, R191). -/
def SettingKey.read (k : SettingKey) (bytes : List Byte) : Option SettingValue :=
  match k with
  | .item i => (readNumber bytes).bind fun v => if i.allows v then some (.number v) else none
  | .nodeMap _ => (readNodeEntry bytes).map .node
  | .csnZone _ => (readNumber bytes).bind fun v => (Zone.ofNumber v.toNat).map .csnZone
  | .channelZone _ => (readNumber bytes).bind fun v => (readChannelZone v).map .channelZone
  | .derating _ => (readPoint bytes).map .point
  | .arming _ => (readNumber bytes).bind fun v => (readArming v).map .armed

/-- A 4-byte value as sent. -/
def numberField (v : Int) : List Byte := bytes32 (BitVec.ofInt 32 v)

def nodeEntryField : Option NodeKind → List Byte
  | none => [0, 0, 0]
  | some (.csn cells sensors) => f1 1 ++ f1 cells ++ f1 sensors
  | some (.dtn channels) => f1 2 ++ f1 channels ++ f1 0

def channelZoneCode : ChannelZone → Nat
  | .byNode => 0
  | .zone z => z.number
  | .unused => 5

def pointField (p : DeratingPoint) : List Byte := f2s p.temperature ++ f2 p.charge ++ f2 p.discharge

/-- The value stored for an entry, coded as SET_SETTING carries it (R185, R191). -/
def SettingKey.field (k : SettingKey) (s : Settings) : List Byte :=
  match k with
  | .item i => numberField (i.get s)
  | .nodeMap a => nodeEntryField (s.map.nodes[a]?).join
  | .csnZone a => numberField ((s.map.csnZones[a]?).getD .z1).number
  | .channelZone n => numberField (channelZoneCode ((s.map.channelZones[n]?).getD .byNode))
  | .derating n => pointField ((s.envelope.derating[n]?).getD ⟨0, 0, 0⟩)
  | .arming z => numberField (armingCode (s.fire.arming.get z))

/-- The settings record with a value stored. -/
def SettingKey.store (k : SettingKey) (v : SettingValue) (s : Settings) : Settings :=
  match k, v with
  | .item i, .number n => i.put s n
  | .nodeMap a, .node x => { s with map.nodes := s.map.nodes.set a x }
  | .csnZone a, .csnZone z => { s with map.csnZones := s.map.csnZones.set a z }
  | .channelZone n, .channelZone c => { s with map.channelZones := s.map.channelZones.set n c }
  | .derating n, .point p => { s with envelope.derating := s.envelope.derating.set n p }
  | .arming z, .armed b => { s with fire.arming := s.fire.arming.set z b }
  | _, _ => s

/-- A CSN's zone in the directory follows the setting at once (R12). -/
def placeCsnZone (address : Nat) (z : Zone) (s : State) : State :=
  updateEntry address (fun e => if e.kind.isCsn then { e with zone := some z } else e) s

/-- What storing a value does beside the settings record (R12, R121); every other value waits for the next event that
reads it (R185). -/
def SettingKey.actAtOnce (p : PortId) (k : SettingKey) (v : SettingValue) (s : State) : State :=
  match k, v with
  | .csnZone a, .csnZone z => placeCsnZone a z s
  | .channelZone n, .channelZone c => changeChannelZone p n c s
  | _, _ => s

/-- A passing value is stored; one equal to the value stored changes nothing (R185). -/
def storeSetting (p : PortId) (k : SettingKey) (v : SettingValue) (s : State) : State :=
  let new := k.store v s.settings
  if new = s.settings then s else k.actAtOnce p v { s with stateUnit.settings := new }

/-- SET_SETTING (R185). -/
def setSettingRequest (p : PortId) (group item index : Byte) (value : List Byte) (s : State) : State × Reply :=
  let named : List Byte := [group, item, index]
  match SettingKey.ofCode group.toNat item.toNat index.toNat with
  | none => (s, .outOfRange named)
  | some k =>
    if !groupAnyState group.toNat && s.stateUnit.state != .setup then
      (s, .wrongState (named ++ k.field s.settings))
    else
      match k.read value with
      | none => (s, .outOfRange (named ++ k.field s.settings))
      | some v =>
        let t := storeSetting p k v s
        (t, .ok (named ++ k.field t.settings))

def execSetSetting (p : PortId) (group item index : Byte) (value : List Byte) (s : State) :
    Host.Outcome State Fault Refusal :=
  serve (.setSetting p group item index value) (setSettingRequest p group item index value) s

end Sys2Proof.Machine
end

