-- ==== Sys2Proof/Machine/Time.lean ====
section
/-! DEFINITION. The part's own time (R173): one millisecond of the time base, and the command that is due when no command
waits (log 1, log 26). -/

namespace Sys2Proof.Machine

/-! ## One millisecond (R173) -/

/-- A counting-up field one millisecond later, stopping at its top. -/
def countUp (top : Nat) (held : Bool) (n : Nat) : Nat := if held then bump top n else n

/-- A sensor's reference age counts while a reference is held (R29). -/
def Sensor.tick (t : Sensor) : Sensor :=
  { t with referenceAge := countUp Config.referenceAgeTop t.reference.isSome t.referenceAge }

/-- A channel's reference age counts while a reference is held (R124). -/
def Channel.tick (c : Channel) : Channel :=
  { c with referenceAge := countUp Config.referenceAgeTop c.reference.isSome c.referenceAge }

/-- A zone's countdowns, and its released-for count; the release countdown runs in COUNTDOWN alone (R130, R135). -/
def ZoneRecord.tick (r : ZoneRecord) : ZoneRecord :=
  { r with
    countdown := if r.state = .countdown then countDown r.countdown else r.countdown
    clearCountdown := countDown r.clearCountdown
    singleSource := countDown r.singleSource
    releasedFor := r.releasedFor.map (bump Config.releasedForTop) }

/-- The connection's countdowns (R89, R93). -/
def Connection.tick (c : Connection) : Connection :=
  { c with
    permit := { c.permit with holdRemaining := countDown c.permit.holdRemaining }
    precharge := countDown c.precharge
    confirm := countDown c.confirm
    shed := countDown c.shed
    siteVote := countDown c.siteVote
    stationVote := countDown c.stationVote }

/-- The Thermal Controller's countdowns (R153, R156, R158). -/
def Cooling.tick (c : Cooling) : Cooling :=
  { c with
    flowCountdown := countDown c.flowCountdown
    recovery := countDown c.recovery
    override := c.override.map fun o => { o with remaining := o.remaining - 1 } }

/-- The debounce countdowns, the minute countdown and the time base (R164, R173, R174). -/
def Lines.tick (l : Lines) : Lines :=
  { l with
    inputs := PerInput.of fun i => { l.inputs.get i with debounce := countDown (l.inputs.get i).debounce }
    minute := l.minute - 1
    timeBase := l.timeBase + 1 }

/-- The period countdown and the answer timeout (R14, R16). -/
def Ring.tick (r : Ring) : Ring :=
  { r with
    countdown := r.countdown - 1
    attempt := r.attempt.map fun a => { a with timeout := countDown a.timeout } }

/-- One millisecond: every countdown goes down and every counting-up field goes up by one (R173). -/
def tick (s : State) : State :=
  { s with
    ring := s.ring.tick
    records.sensors := s.records.sensors.map Sensor.tick
    connection := s.connection.tick
    zones := ⟨s.zones.channels.map Channel.tick, PerZone.of fun z => (s.zone z).tick⟩
    cooling := s.cooling.tick
    lines := s.lines.tick
    portUnit.ports := s.portUnit.ports.map fun p => { p with gap := countDown p.gap } }

/-! ## What is due -/

/-- A countdown that has reached 0. -/
def atZero (c : Option Nat) : Bool := c == some 0

def dueIf (b : Bool) (c : Instr) : List Instr := if b then [c] else []

/-- The request at the head of a port's queue that waits to be handed over (R189). -/
def dueRequest (s : State) (p : PortId) : List Instr :=
  let r := s.port p
  match r.answer, r.queue with
  | none, head :: _ => (readRequest p head).toList
  | _, _ => []

/-- A measurement that is taken as the sample held: a saturated current stands one count beyond its end (R170). -/
def LineSample.measurement (l : LineSample) : LineMeasurement where
  current := if l.saturated then (if l.current < 0 then -20001 else 20001) else l.current
  stringVoltage := l.stringVoltage
  linkVoltage := l.linkVoltage

/-- A RESTART whose answer has been sent takes place, with the line held as its first sample (R183, log 23). -/
def dueRestart (s : State) : List Instr :=
  dueIf (s.stateUnit.restart == .due) (.restartTaken s.lines.sample.measurement)

/-- The expiries of a zone's countdowns. -/
def dueZone (s : State) (z : Zone) : List Instr :=
  let r := s.zone z
  dueIf (r.state == .countdown && atZero r.countdown) (.releaseCountdownExpiry z)
    ++ dueIf (atZero r.singleSource) (.singleSourceExpiry z) ++ dueIf (atZero r.clearCountdown) (.clearCountdownExpiry z)

/-- The expiries of the connection's countdowns. -/
def dueConnection (c : Connection) : List Instr :=
  dueIf (atZero c.confirm) .confirmCountdownExpiry ++ dueIf (atZero c.precharge) .prechargeTimeout
    ++ dueIf (atZero c.shed) .shedTimeout ++ dueIf (atZero c.permit.holdRemaining) .gridHoldExpiry
    ++ dueIf (atZero c.siteVote) (.voteExpiry .site) ++ dueIf (atZero c.stationVote) (.voteExpiry .station)

/-- The expiries of the Thermal Controller's countdowns. -/
def dueCooling (c : Cooling) : List Instr :=
  dueIf (atZero c.flowCountdown) .flowCountdownExpiry ++ dueIf (atZero c.recovery) .recoveryCountdownExpiry
    ++ dueIf (c.override.any fun o => o.remaining == 0) .overrideExpiry

/-- The answer timeout and the period boundary. -/
def dueRing (r : Ring) : List Instr :=
  (match r.attempt with
    | some a => dueIf (atZero a.timeout) (.ringAnswerTimeout a.listensAt [])
    | none => [])
    ++ dueIf (r.countdown == 0) .periodBoundary

def duePort (s : State) (p : PortId) : List Instr := dueIf (atZero (s.port p).gap) (.portGapTimeout p [])

/-- What is due when no command waits, in the order it is taken (log 26). -/
def due (s : State) : List Instr :=
  let ports : List PortId := [.site, .converter, .station]
  dueRestart s ++ ports.flatMap (dueRequest s) ++ Zone.all.flatMap (dueZone s)
    ++ Input.all.flatMap (fun i => dueIf (atZero (s.input i).debounce) (.debounceExpiry i))
    ++ dueConnection s.connection ++ dueCooling s.cooling ++ dueRing s.ring
    ++ dueIf (s.lines.minute == 0) .minuteTick ++ ports.flatMap (duePort s)

/-- The command that is due, if any. -/
def dueCommand (s : State) : Option Instr := (due s).head?

end Sys2Proof.Machine
end

