-- ==== Sys2Proof/Machine/Dispatch.lean ====
section
/-! DEFINITION. One arm for each command: a direct call of its meaning. -/

namespace Sys2Proof.Machine

/-- The effect of a command on everything but the queue of waiting commands. -/
def exec (i : Instr) (s : State) : Host.Outcome State Fault Refusal :=
  match i with
  | .powerOn raw first => Sys2Proof.Machine.execPowerOn raw first s
  | .restart p => Sys2Proof.Machine.execRestart p s
  | .restartTaken first => Sys2Proof.Machine.execRestartTaken first s
  | .periodBoundary => Sys2Proof.Machine.execPeriodBoundary s
  | .ringFrameReceived at_ bytes => Sys2Proof.Machine.execRingFrameReceived at_ bytes s
  | .ringFrameAbort at_ bytes => Sys2Proof.Machine.execRingFrameAbort at_ bytes s
  | .ringAnswerTimeout at_ bytes => Sys2Proof.Machine.execRingAnswerTimeout at_ bytes s
  | .clearCountdownExpiry z => Sys2Proof.Machine.execClearCountdownExpiry z s
  | .singleSourceExpiry z => Sys2Proof.Machine.execSingleSourceExpiry z s
  | .releaseCountdownExpiry z => Sys2Proof.Machine.execReleaseCountdownExpiry z s
  | .inputEdge line level => Sys2Proof.Machine.execInputEdge line level s
  | .debounceExpiry line => Sys2Proof.Machine.execDebounceExpiry line s
  | .confirmCountdownExpiry => Sys2Proof.Machine.execConfirmCountdownExpiry s
  | .prechargeTimeout => Sys2Proof.Machine.execPrechargeTimeout s
  | .shedTimeout => Sys2Proof.Machine.execShedTimeout s
  | .gridHoldExpiry => Sys2Proof.Machine.execGridHoldExpiry s
  | .voteExpiry p => Sys2Proof.Machine.execVoteExpiry p s
  | .flowCountdownExpiry => Sys2Proof.Machine.execFlowCountdownExpiry s
  | .recoveryCountdownExpiry => Sys2Proof.Machine.execRecoveryCountdownExpiry s
  | .overrideExpiry => Sys2Proof.Machine.execOverrideExpiry s
  | .minuteTick => Sys2Proof.Machine.execMinuteTick s
  | .lineSample m => Sys2Proof.Machine.execLineSample m s
  | .coolantSample supply return_ => Sys2Proof.Machine.execCoolantSample supply return_ s
  | .portFrameReceived p bytes => Sys2Proof.Machine.execPortFrameReceived p bytes s
  | .portGapTimeout p bytes => Sys2Proof.Machine.execPortGapTimeout p bytes s
  | .answerSent p => Sys2Proof.Machine.execAnswerSent p s
  | .unknownRequest p code payload => Sys2Proof.Machine.execUnknownRequest p code payload s
  | .readState p => Sys2Proof.Machine.execReadState p s
  | .readNodes p first count => Sys2Proof.Machine.execReadNodes p first count s
  | .readCells p start count => Sys2Proof.Machine.execReadCells p start count s
  | .readTemps p start count => Sys2Proof.Machine.execReadTemps p start count s
  | .readEnvelope p => Sys2Proof.Machine.execReadEnvelope p s
  | .readConnection p => Sys2Proof.Machine.execReadConnection p s
  | .readZones p => Sys2Proof.Machine.execReadZones p s
  | .readChannels p first count => Sys2Proof.Machine.execReadChannels p first count s
  | .readInputs p => Sys2Proof.Machine.execReadInputs p s
  | .readCooling p => Sys2Proof.Machine.execReadCooling p s
  | .readJournal p => Sys2Proof.Machine.execReadJournal p s
  | .noticeMask p causes => Sys2Proof.Machine.execNoticeMask p causes s
  | .ack p causes => Sys2Proof.Machine.execAck p causes s
  | .setSetting p group item index value => Sys2Proof.Machine.execSetSetting p group item index value s
  | .enterRun p => Sys2Proof.Machine.execEnterRun p s
  | .enterSetup p => Sys2Proof.Machine.execEnterSetup p s
  | .enumerate p => Sys2Proof.Machine.execEnumerate p s
  | .sleep p => Sys2Proof.Machine.execSleep p s
  | .wake p => Sys2Proof.Machine.execWake p s
  | .mask p target first count action => Sys2Proof.Machine.execMask p target first count action s
  | .unmask p target first count => Sys2Proof.Machine.execUnmask p target first count s
  | .setWatchFixed p window mode address => Sys2Proof.Machine.execSetWatchFixed p window mode address s
  | .setWatchAuto p window => Sys2Proof.Machine.execSetWatchAuto p window s
  | .balance p pairs => Sys2Proof.Machine.execBalance p pairs s
  | .coolingOverrideSet p action fields => Sys2Proof.Machine.execCoolingOverrideSet p action fields s
  | .coolingOverrideCancel p => Sys2Proof.Machine.execCoolingOverrideCancel p s
  | .energyPermitGrant p action => Sys2Proof.Machine.execEnergyPermitGrant p action s
  | .energyPermitWithdraw p => Sys2Proof.Machine.execEnergyPermitWithdraw p s
  | .gridPermitGrant p action hold => Sys2Proof.Machine.execGridPermitGrant p action hold s
  | .gridPermitWithdraw p hold => Sys2Proof.Machine.execGridPermitWithdraw p hold s
  | .clearLockout p => Sys2Proof.Machine.execClearLockout p s
  | .close p marker => Sys2Proof.Machine.execClose p marker s
  | .openRequest p marker => Sys2Proof.Machine.execOpenRequest p marker s
  | .remoteTrip p marker => Sys2Proof.Machine.execRemoteTrip p marker s
  | .hold p zone => Sys2Proof.Machine.execHold p zone s
  | .holdRelease p zone => Sys2Proof.Machine.execHoldRelease p zone s
  | .abort p zone => Sys2Proof.Machine.execAbort p zone s
  | .resetZone p zone => Sys2Proof.Machine.execResetZone p zone s
  | .ringRequestSent => Sys2Proof.Machine.execRingRequestSent s

end Sys2Proof.Machine
end

