-- ==== Sys2Proof/Safety.lean ====
section
/-! DEFINITION. What counts as a safe run, in the terms the statements use: what an answer at a port is, which slot of
a ring cycle comes next, and the promises the spec makes over every step. Each promise is written from the spec's own
table or sentence and not from the functions of the machine that keep it. -/

namespace Sys2Proof.Safety
open Sys2Proof.Machine

/-! ## Answers (R186, R188, R189, R194) -/

/-- Port `p` is sending the answer of a request code: STATUS, CAUSE as the port stands (R194), LOST_REQUEST as the lost
flag stood before (R189), payload; and the lost flag is clear. -/
def AnswerAt (p : PortId) (code : Byte) (status : Status) (payload : List Byte) (s t : State) : Prop :=
  (t.port p).answer = some ⟨code, status, (t.port p).causeByte, (s.port p).lost, payload⟩ ∧ (t.port p).lost = false

/-- A request command is handed over now: its port sends no answer, and the request stands at the head of the port's
queue or finds that queue empty (R189, log 3). -/
def HandedOver (p : PortId) (i : Instr) (s : State) : Prop :=
  (s.port p).answer = none ∧ ∀ head rest, (s.port p).queue = head :: rest → readRequest p head = some i

/-- Nothing has changed but the answering port's queue head, lost flag and answer. -/
def OnlyAnswered (p : PortId) (s t : State) : Prop :=
  t = setPort p
    { s.port p with queue := (t.port p).queue, lost := (t.port p).lost, answer := (t.port p).answer } s

/-- A request is answered so and changes nothing else. -/
def AnsweredOnly (p : PortId) (code : Byte) (status : Status) (payload : List Byte) (s t : State) : Prop :=
  AnswerAt p code status payload s t ∧ OnlyAnswered p s t

/-- A notice cause is pending at all three ports (R193). -/
def PendingEverywhere (n : Notice) (t : State) : Prop := ∀ p, n.inSet (t.port p).pendingSet = true

/-- The ports stand as before but for the causes now pending (R193). -/
def PortsNotified (s t : State) : Prop := ∀ p, t.port p = { s.port p with pendingSet := (t.port p).pendingSet }

/-- The ports stand as before but for the causes now pending, and the head, lost flag and answer of the answering
port. -/
def PortsAnswered (p : PortId) (s t : State) : Prop :=
  t.port p
      = { s.port p with
          queue := (t.port p).queue, lost := (t.port p).lost, answer := (t.port p).answer
          pendingSet := (t.port p).pendingSet }
    ∧ ∀ q, q ≠ p → t.port q = { s.port q with pendingSet := (t.port q).pendingSet }

/-! ## Fields as sent (R190) -/

/-- A field of two bytes, most significant first. -/
def two (n : Nat) : List Byte := [BitVec.ofNat 8 (n / 256), BitVec.ofNat 8 n]

/-- A field of four bytes, most significant first. -/
def four (n : Nat) : List Byte := two (n / 65536) ++ two n

/-- A signed field of two bytes, in two's complement. -/
def signed (v : Int) : List Byte := two (v % 65536).toNat

/-- A flag: 1 set, 0 clear. -/
def bit (b : Bool) : Byte := if b then 1 else 0

/-- A field that may be absent: a presence byte, and zeros for the bytes of an absent field. -/
def may {α : Type} (width : Nat) (write : α → List Byte) (v : Option α) : List Byte :=
  match v with
  | some x => 1 :: write x
  | none => List.replicate (width + 1) 0

/-- A value's position in the list its owning rule gives, counted from 1. -/
def place {α : Type} [DecidableEq α] (l : List α) (x : α) : Byte := BitVec.ofNat 8 (l.idxOf x + 1)

/-! ## Journal appends (R196, R197) -/

/-- The last 32 of a list of records, oldest first. -/
def lastRecords (l : List JournalRecord) : List JournalRecord := l.drop (l.length - 32)

/-- The record an entry becomes: its sequence number, the time base and the latest line sample are added. -/
def recordFor (e : Entry) (sequence : Word16) (t : State) : JournalRecord :=
  ⟨sequence, t.lines.timeBase, e.kind, e.cause, e.origin, e.zone, e.location, t.lines.sample.current,
    t.lines.sample.stringVoltage⟩

/-- From `s` to `t` the journal has taken these entries, in this order and with consecutive sequence numbers, and no
other, and has kept the last 32 records. -/
def Appended (es : List Entry) (s t : State) : Prop :=
  t.portUnit.nextSequence = s.portUnit.nextSequence + BitVec.ofNat 16 es.length
    ∧ t.portUnit.journal
      = lastRecords (s.portUnit.journal
          ++ es.mapIdx fun k e => recordFor e (s.portUnit.nextSequence + BitVec.ofNat 16 k) t)

/-- The journal stands as it was. -/
def JournalKept (s t : State) : Prop :=
  t.portUnit.journal = s.portUnit.journal ∧ t.portUnit.nextSequence = s.portUnit.nextSequence

/-! ## The slot list of a ring cycle (R17) -/

/-- The slot of a watch window: a SCAN slot to its chosen node, or one more rotation slot. -/
def watchSlot (chosen : Option Nat) : Slot :=
  match chosen with
  | some a => .scan a
  | none => .rotation

/-- The slots after TOKEN: watch A, watch B, one DETECT slot per DTN in address order, R rotation slots. In DORMANT the
watch slots are left out and R is 1. -/
def cycleSlots (dormant : Bool) (s : State) : List Slot :=
  (if dormant then [] else [watchSlot s.ring.windowA.chosen, watchSlot s.ring.windowB.chosen])
    ++ (s.ring.directory.filter fun e => !e.kind.isCsn).map (fun e => .detect e.address)
    ++ List.replicate (if dormant then 1 else s.settings.ring.rotationSlots) .rotation

/-! ## The slots still to come of a ring cycle (R17, R18, R19, R23)

Rotation slots that find no node take no time. Which node a rotation slot takes is stated in
`Obligations.RotationSlot`. -/

/-- No slot that takes time is left: rotation slots alone, and none of them finds a node. -/
def CycleOver (s : State) (slots : List Slot) (visited : List Nat) : Prop :=
  ∃ idle, slots = List.replicate idle .rotation ∧ (0 < idle → rotationPick s.ring visited = none)

/-- The next slot that takes time is a node slot with this job, or a rotation slot that takes the node of this job.
After it these slots are still to come, these nodes are visited, and the rotation pointer stands here. -/
def NextSlotBegins (s : State) (slots rest : List Slot) (visited after : List Nat) (pointer : Option Nat) (job : Job) :
    Prop :=
  ∃ idle slot, slots = List.replicate idle .rotation ++ slot :: rest
    ∧ (0 < idle → rotationPick s.ring visited = none)
    ∧ match slot with
      | .token => False
      | .scan n => job = .scan n ∧ after = visited ∧ pointer = s.ring.rotation
      | .detect n => job = .detect n ∧ after = visited ∧ pointer = s.ring.rotation
      | .rotation =>
        ∃ n, rotationPick s.ring visited = some n ∧ job = .scan n ∧ after = visited ++ [n]
          ∧ pointer = nextCsn s.ring.csns n

/-- The request frame of a job (R18, R60). -/
def jobFrame (t : State) : Job → RingFrame
  | .token => ⟨0x01, 0xFF, []⟩
  | .enumerate => ⟨0x02, 0xFF, [0x00]⟩
  | .scan n => ⟨0x03, byteOf n, bytes16 (bleedMask t n)⟩
  | .detect n => ⟨0x04, byteOf n, []⟩

/-- The first attempt of a node slot: from OUT, listening at RETURN, in a CLOSED ring. Otherwise from and at the port of
the node's direction, OUT where it is unknown, with the other port to fall back on. -/
def firstAttempt (t : State) (job : Job) : Attempt :=
  let direction := (job.address.bind t.dirEntry).map (·.direction)
  let first : RingPort := if direction = some .ret then .ret else .out
  if t.ring.state = .closed then ⟨job, jobFrame t job, .out, .ret, true, none, none, none⟩
  else ⟨job, jobFrame t job, first, first, true, some first.other, none, none⟩

/-! ## The connection's lines (R94) -/

/-- The table of R94. -/
def LinesFollowState (s : State) : Prop :=
  match s.connection.state with
  | .opened | .opening | .lockout =>
    s.lines.outputs.negMain = false ∧ s.lines.outputs.precharge = false ∧ s.lines.outputs.posMain = false
      ∧ s.lines.outputs.gridPermissive = false
  | .precharging =>
    s.lines.outputs.negMain = true ∧ s.lines.outputs.precharge = true ∧ s.lines.outputs.posMain = false
      ∧ s.lines.outputs.gridPermissive = false
  | .closing =>
    s.lines.outputs.negMain = true ∧ s.lines.outputs.precharge = true ∧ s.lines.outputs.posMain = true
      ∧ s.lines.outputs.gridPermissive = false
  | .closed | .shedding =>
    s.lines.outputs.negMain = true ∧ s.lines.outputs.precharge = false ∧ s.lines.outputs.posMain = true
      ∧ s.lines.outputs.gridPermissive = true

/-! ## The agent lines (R136) -/

/-- A zone's agent-release output is asserted exactly while that zone is RELEASED. -/
def AgentLinesFollowZones (s : State) : Prop :=
  ∀ z, s.lines.outputs.agent.get z = true ↔ (s.zone z).state = .released

/-! ## The cooling mode in a fire (R151) -/

/-- A zone that counts down, is held or is released. -/
def ReleaseUnderWay (s : State) : Prop :=
  ∃ z, (s.zone z).state = .countdown ∨ (s.zone z).state = .held ∨ (s.zone z).state = .released

/-- While a release is under way the mode is SEAL or PURGE, and PURGE only while some zone is RELEASED. -/
def SealedInFire (s : State) : Prop :=
  (ReleaseUnderWay s → s.cooling.mode = .seal ∨ s.cooling.mode = .purge)
    ∧ (s.cooling.mode = .purge → ∃ z, (s.zone z).state = .released)

/-! ## The voltages used by the envelope (R66) -/

/-- A cell of the image that contributes: populated, unmasked, FRESH or STALE. -/
def Contributes (c : Cell) : Prop :=
  c.populated = true ∧ c.masked = false ∧ (c.condition = .fresh ∨ c.condition = .stale)

/-- The voltage a contributing cell gives, with the reading of two that `worse` chooses where it disagrees. -/
def GivesVoltage (worse : Nat → Nat → Nat) (c : Cell) (v : Nat) : Prop :=
  Contributes c ∧
    match c.disagree, c.primary, c.secondary with
    | true, some p, some q => v = worse p q
    | true, some p, none => v = p
    | true, none, some q => v = q
    | _, _, _ => c.filtered = some v

/-! ## The envelope's zero (R76) -/

/-- A zone in ALARM, COUNTDOWN, HELD, ABORTED or RELEASED. -/
def BeyondPreAlarm (z : ZoneState) : Prop := z ≠ .normal ∧ z ≠ .preAlarm

/-- The four zeroing conditions. -/
def ZeroingHolds (s : State) : Prop :=
  s.stateUnit.state ≠ .run
    ∨ (s.connection.state = .shedding ∨ s.connection.state = .opening ∨ s.connection.state = .lockout)
    ∨ (∃ z, BeyondPreAlarm (s.zone z).state)
    ∨ s.ring.state = .severed

/-- Both effective limits are zero while a zeroing condition holds, and the charge limit while any zone is PRE_ALARM or
BLIND. -/
def EnvelopeZeroed (s : State) : Prop :=
  (ZeroingHolds s → s.envelope.charge.effective = 0 ∧ s.envelope.discharge.effective = 0)
    ∧ ((∃ z, (s.zone z).state = .preAlarm ∨ (s.zone z).blind = true) → s.envelope.charge.effective = 0)

/-- No effective limit is above the target of the latest computation, nor above its rated current (R77). -/
def EnvelopeWithinTargets (s : State) : Prop :=
  (s.envelope.charge.effective ≤ s.envelope.charge.target
      ∧ s.envelope.charge.effective ≤ s.settings.envelope.ratedCharge)
    ∧ s.envelope.discharge.effective ≤ s.envelope.discharge.target
    ∧ s.envelope.discharge.effective ≤ s.settings.envelope.ratedDischarge

/-! ## When the string may be closed (R107, and the note of section 5.1) -/

/-- The string is on its way to being closed, or closed. -/
def ClosingOrClosed (s : State) : Prop :=
  s.connection.state = .precharging ∨ s.connection.state = .closing ∨ s.connection.state = .closed

/-- Some populated unmasked cell is LOST in the working records. -/
def CellLost (s : State) : Prop :=
  ∃ c ∈ s.records.cells, c.populated = true ∧ c.masked = false ∧ c.condition = .lost

/-- PRECHARGING, CLOSING and CLOSED only in RUN, with every zone NORMAL or PRE_ALARM, no lost cell, both permits given
and the feeder closed. A sleep is pending only while the connection is OPEN or LOCKOUT (R180). -/
def ClosedOnlyWhileSafe (s : State) : Prop :=
  (ClosingOrClosed s →
    s.stateUnit.state = .run ∧ (∀ z, ¬ BeyondPreAlarm (s.zone z).state) ∧ ¬ CellLost s
      ∧ s.connection.permit.energy = .granted ∧ s.connection.permit.grid = .valid ∧ s.live .feederClosed = true)
    ∧ (s.stateUnit.sleepPending = true → s.connection.state = .opened ∨ s.connection.state = .lockout)

/-! ## The journal (R197) -/

/-- At most 32 records, with consecutive sequence numbers up to the next sequence, oldest first. -/
def JournalConsecutive (s : State) : Prop :=
  s.portUnit.journal.length ≤ 32
    ∧ ∀ k r, s.portUnit.journal[k]? = some r →
        r.sequence = s.portUnit.nextSequence - BitVec.ofNat 16 (s.portUnit.journal.length - k)

/-! ## The watch windows (R20) -/

/-- The address of a CSN of the directory. -/
def IsCsn (s : State) (a : Nat) : Prop := ∃ e ∈ s.ring.directory, e.address = a ∧ e.kind.isCsn = true

/-- The two windows never hold the same node, chosen or current, and hold CSNs alone. -/
def WindowsApart (s : State) : Prop :=
  (∀ a, s.ring.windowA.chosen = some a → s.ring.windowB.chosen ≠ some a)
    ∧ (∀ a, s.ring.windowA.current = some a → s.ring.windowB.current ≠ some a)
    ∧ ∀ w ∈ [s.ring.windowA, s.ring.windowB], ∀ a, w.chosen = some a ∨ w.current = some a → IsCsn s a

/-! ## Node attempts (R17, R18, R27) -/

/-- A SCAN or DETECT attempt is on the ring only inside a ring cycle: the node slots are slots of its list. -/
def NodeAttemptInCycle (s : State) : Prop :=
  ∀ a n, s.ring.attempt = some a → a.job = .scan n ∨ a.job = .detect n → s.ring.cycle ≠ none

/-! ## The balance table (R54, R59) -/

/-- Outside RUN every entry is IDLE with 0 remaining minutes, and on every node the count of non-IDLE entries never
exceeds the per-node cap. -/
def BalanceTableKept (s : State) : Prop :=
  s.balance.length = 320
    ∧ (s.stateUnit.state ≠ .run → ∀ e ∈ s.balance, e = ⟨.idle, 0⟩)
    ∧ ∀ p ∈ spans s.ring.directory, (slice s.balance p.firstCell p.cells).countP (fun e => e.state != .idle)
        ≤ s.settings.balance.nodeCap

/-! ## The settings (R185) -/

/-- Every ordinary item holds a value inside its range and on its step, each of the 24 node map entries is NONE or a
node with counts the part can take, and each of the six derating points lies in its ranges. The zones and the arming
have no value outside their ranges. -/
def SettingsInRange (s : State) : Prop :=
  (∀ i : Item, i.range.1 ≤ i.get s.settings ∧ i.get s.settings ≤ i.range.2.1 ∧ i.get s.settings % i.range.2.2 = 0)
    ∧ s.settings.map.nodes.length = 24
    ∧ (∀ k, some k ∈ s.settings.map.nodes →
        match k with
        | .csn cells sensors => 1 ≤ cells ∧ cells ≤ 16 ∧ sensors ≤ 4
        | .dtn channels => 1 ≤ channels ∧ channels ≤ 8)
    ∧ s.settings.envelope.derating.length = 6
    ∧ ∀ p ∈ s.settings.envelope.derating,
        -400 ≤ p.temperature ∧ p.temperature ≤ 1250 ∧ p.charge ≤ 1024 ∧ p.discharge ≤ 1024

/-! ## The monitor (R83, R86) -/

/-- The monitor runs exactly while the connection is CLOSED, and then neither accumulator holds a value at or above the
budget threshold. -/
def MonitorKept (s : State) : Prop :=
  (s.monitor.monitoring = true ↔ s.connection.state = .closed)
    ∧ (s.connection.state = .closed →
        s.monitor.chargeSum < 1000 * s.settings.envelope.excessBudget
          ∧ s.monitor.dischargeSum < 1000 * s.settings.envelope.excessBudget)

end Sys2Proof.Safety
end

