-- ==== Sys2Proof/WellFormed.lean ====
section
/-! DEFINITION. Which terms of `Instr` are commands the outside can give: one check per operand that the wire or the
split of a request code into two rows restricts. -/

namespace Sys2Proof

/-- The most payload bytes a request frame carries (R186). -/
def payloadTop : Nat := 63

/-- SET_SETTING's value fits the frame beside group, item and index. -/
def settingFits (value : List Byte) : Bool := decide (value.length + 3 ≤ payloadTop)

/-- The pairs of BALANCE fit the frame beside their count. -/
def pairsFit (pairs : List (Word16 × Word16)) : Bool := decide (4 * pairs.length + 1 ≤ payloadTop)

/-- An UNKNOWN_REQUEST carries a code that is no request code, in a payload that fits (R188). -/
def unknownFits (code : Byte) (payload : List Byte) : Bool :=
  (Machine.rightsOf code).isNone && decide (payload.length ≤ payloadTop)

/-- The first row of a shared request code carries an action or mode byte other than the second row's (log 29). -/
def firstRow (second byte : Byte) : Bool := byte != second

/-- A well-formed command. -/
def Instr.wellFormed : Instr → Bool
  | .powerOn _ _ => true
  | .restart _ => true
  | .restartTaken _ => true
  | .periodBoundary => true
  | .ringFrameReceived _ _ => true
  | .ringFrameAbort _ _ => true
  | .ringAnswerTimeout _ _ => true
  | .clearCountdownExpiry _ => true
  | .singleSourceExpiry _ => true
  | .releaseCountdownExpiry _ => true
  | .inputEdge _ _ => true
  | .debounceExpiry _ => true
  | .confirmCountdownExpiry => true
  | .prechargeTimeout => true
  | .shedTimeout => true
  | .gridHoldExpiry => true
  | .voteExpiry p => p != .converter
  | .flowCountdownExpiry => true
  | .recoveryCountdownExpiry => true
  | .overrideExpiry => true
  | .minuteTick => true
  | .lineSample _ => true
  | .coolantSample _ _ => true
  | .portFrameReceived _ _ => true
  | .portGapTimeout _ _ => true
  | .answerSent _ => true
  | .unknownRequest _ code payload => unknownFits code payload
  | .readState _ => true
  | .readNodes _ _ _ => true
  | .readCells _ _ _ => true
  | .readTemps _ _ _ => true
  | .readEnvelope _ => true
  | .readConnection _ => true
  | .readZones _ => true
  | .readChannels _ _ _ => true
  | .readInputs _ => true
  | .readCooling _ => true
  | .readJournal _ => true
  | .noticeMask _ _ => true
  | .ack _ _ => true
  | .setSetting _ _ _ _ value => settingFits value
  | .enterRun _ => true
  | .enterSetup _ => true
  | .enumerate _ => true
  | .sleep _ => true
  | .wake _ => true
  | .mask _ _ _ _ action => firstRow 0x02 action
  | .unmask _ _ _ _ => true
  | .setWatchFixed _ _ mode _ => firstRow 0x01 mode
  | .setWatchAuto _ _ => true
  | .balance _ pairs => pairsFit pairs
  | .coolingOverrideSet _ action _ => firstRow 0x02 action
  | .coolingOverrideCancel _ => true
  | .energyPermitGrant _ action => firstRow 0x02 action
  | .energyPermitWithdraw _ => true
  | .gridPermitGrant _ action _ => firstRow 0x02 action
  | .gridPermitWithdraw _ _ => true
  | .clearLockout _ => true
  | .close _ _ => true
  | .openRequest _ _ => true
  | .remoteTrip _ _ => true
  | .hold _ _ => true
  | .holdRelease _ _ => true
  | .abort _ _ => true
  | .resetZone _ _ => true
  | .ringRequestSent => true

end Sys2Proof
end

