-- ==== Sys2Proof/Certificates/Slice0/Obligations.lean ====
section
/-! DEFINITION. The statements for the provers. A statement about a command concludes that `exec` answers a next state,
and says what that state holds; the notions it uses stand in Sys2Proof/Safety.lean. -/

section Slice0Statements
open Sys2Proof Sys2Proof.Machine Sys2Proof.Safety

/-- The queue of waiting commands is the model's (log 1): a step takes the command at its front, and runs `exec` on the
state with the queue's rest. -/
def Obligations.StepRunsFrontCommand : Prop :=
  ∀ (c : Instr) (rest : List Instr) (s : State), s.pending = c :: rest → step s = exec c { s with pending := rest }

/-- The model's choice (log 1, log 26): with an empty queue a step runs what is due, and otherwise one millisecond
passes. `stands` says which commands are due, among them a head request (log 3) and a restart with the sample held (log
23), and `group` in which order (log 26). In a millisecond the time base goes up by 1, every countdown that is present
goes down by 1 and waits at 0, every counting-up field goes up by 1 and stops at its top, and nothing else changes. -/
def Obligations.EmptyQueueStep : Prop :=
  ∀ s : State, s.pending = [] →
    let held := s.lines.sample
    let stands (c : Instr) : Prop :=
      match c with
      | .restartTaken first =>
        s.stateUnit.restart = .due ∧ first.stringVoltage = held.stringVoltage ∧ first.linkVoltage = held.linkVoltage ∧
          first.current = if held.saturated then (if held.current < 0 then -20001 else 20001) else held.current
      | .releaseCountdownExpiry z => (s.zone z).state = .countdown ∧ (s.zone z).countdown = some 0
      | .singleSourceExpiry z => (s.zone z).singleSource = some 0
      | .clearCountdownExpiry z => (s.zone z).clearCountdown = some 0
      | .debounceExpiry i => (s.input i).debounce = some 0
      | .confirmCountdownExpiry => s.connection.confirm = some 0
      | .prechargeTimeout => s.connection.precharge = some 0
      | .shedTimeout => s.connection.shed = some 0
      | .gridHoldExpiry => s.connection.permit.holdRemaining = some 0
      | .voteExpiry p =>
        (p = .site ∧ s.connection.siteVote = some 0) ∨ (p = .station ∧ s.connection.stationVote = some 0)
      | .flowCountdownExpiry => s.cooling.flowCountdown = some 0
      | .recoveryCountdownExpiry => s.cooling.recovery = some 0
      | .overrideExpiry => ∃ o, s.cooling.override = some o ∧ o.remaining = 0
      | .ringAnswerTimeout port bytes =>
        bytes = [] ∧ ∃ a, s.ring.attempt = some a ∧ a.listensAt = port ∧ a.timeout = some 0
      | .periodBoundary => s.ring.countdown = 0
      | .minuteTick => s.lines.minute = 0
      | .portGapTimeout p bytes => bytes = [] ∧ (s.port p).gap = some 0
      | c => ∃ p head rest, (s.port p).answer = none ∧ (s.port p).queue = head :: rest ∧ readRequest p head = some c
    let group (c : Instr) : Nat :=
      match c with
      | .restartTaken _ => 0
      | .releaseCountdownExpiry _ | .singleSourceExpiry _ | .clearCountdownExpiry _ => 2
      | .debounceExpiry _ => 3
      | .confirmCountdownExpiry | .prechargeTimeout | .shedTimeout | .gridHoldExpiry | .voteExpiry _ => 4
      | .flowCountdownExpiry | .recoveryCountdownExpiry | .overrideExpiry => 5
      | .ringAnswerTimeout _ _ | .periodBoundary => 6
      | .minuteTick => 7
      | .portGapTimeout _ _ => 8
      | _ => 1
    (∀ c, dueCommand s = some c → step s = exec c s ∧ stands c ∧ ∀ d, stands d → group c ≤ group d) ∧
    (dueCommand s = none → (∀ c, ¬ stands c) ∧
      let down (c : Option Nat) : Option Nat := c.map (· - 1)
      step s = .next
        { s with
          ring := { s.ring with
            countdown := s.ring.countdown - 1
            attempt := s.ring.attempt.map fun a => { a with timeout := down a.timeout } }
          records := { s.records with
            sensors := s.records.sensors.map fun x =>
              { x with referenceAge := if x.reference.isSome then min 120000 (x.referenceAge + 1) else x.referenceAge } }
          connection := { s.connection with
            permit := { s.connection.permit with holdRemaining := down s.connection.permit.holdRemaining }
            precharge := down s.connection.precharge, confirm := down s.connection.confirm
            shed := down s.connection.shed, siteVote := down s.connection.siteVote
            stationVote := down s.connection.stationVote }
          zones :=
            { channels := s.zones.channels.map fun x =>
                { x with referenceAge := if x.reference.isSome then min 120000 (x.referenceAge + 1) else x.referenceAge }
              zones := PerZone.of fun z =>
                { s.zone z with
                  countdown :=
                    if (s.zone z).state = .countdown then down (s.zone z).countdown else (s.zone z).countdown
                  clearCountdown := down (s.zone z).clearCountdown
                  singleSource := down (s.zone z).singleSource
                  releasedFor := (s.zone z).releasedFor.map fun n => min 3600000 (n + 1) } }
          cooling := { s.cooling with
            flowCountdown := down s.cooling.flowCountdown, recovery := down s.cooling.recovery
            override := s.cooling.override.map fun o => { o with remaining := o.remaining - 1 } }
          lines := { s.lines with
            timeBase := s.lines.timeBase + 1, minute := s.lines.minute - 1
            inputs := PerInput.of fun i => { s.input i with debounce := down (s.input i).debounce } }
          portUnit := { s.portUnit with
            ports := s.portUnit.ports.map fun p => { p with gap := down p.gap } } })

/-- The spec stops the part nowhere: every request has a status and every event a rule. No command faults or is refused,
and none touches the model's queue of waiting commands (log 1). -/
def Obligations.EveryCommandCompletes : Prop :=
  ∀ (c : Instr) (s : State), ∃ t, exec c s = .next t ∧ t.pending = s.pending

/-- The invariants that the statements below say every step keeps hold of the part right after reset. -/
def Obligations.InvariantsHoldAtReset : Prop :=
  LinesFollowState State.reset ∧ AgentLinesFollowZones State.reset ∧ SealedInFire State.reset ∧
    EnvelopeZeroed State.reset ∧ EnvelopeWithinTargets State.reset ∧ ClosedOnlyWhileSafe State.reset ∧
    JournalConsecutive State.reset ∧ WindowsApart State.reset ∧ NodeAttemptInCycle State.reset ∧
    BalanceTableKept State.reset ∧ SettingsInRange State.reset ∧ MonitorKept State.reset

/-- R199 and the table at the head of chapter 10 at both starts, with the OP_STATE record of R183. That RESTART_TAKEN
acts once the OK of a RESTART has been sent, and not before, is the model's reading of that rule (log 23). -/
def Obligations.PortUnitAtStart : Prop :=
  let idle (r : PortRecord) : Prop := r.rx = none ∧ r.gap = none ∧ r.lost = false ∧ r.answer = none
  (∀ (raw : PerInput Bool) (first : LineMeasurement) (s : State), ∃ t, exec (.powerOn raw first) s = .next t ∧
      t.portUnit.journal = [] ∧ t.portUnit.nextSequence = 0 ∧
      ∀ p, idle (t.port p) ∧ (t.port p).cursor = 0 ∧ (t.port p).queue = [] ∧ (t.port p).pendingSet = 0 ∧
        (∀ n : Notice, n.inSet (t.port p).enabledSet = true) ∧ (t.port p).attention = false ∧ (t.port p).dropped = 0) ∧
  ∀ (first : LineMeasurement) (s : State), s.stateUnit.restart = .due → ∃ t, exec (.restartTaken first) s = .next t ∧
    Appended [{ kind := .opState, cause := .restart, origin := some ⟨.site, none⟩ }] s t ∧
    ∀ p, idle (t.port p) ∧ (t.port p).cursor = (s.port p).cursor ∧ (t.port p).queue = [] ∧
      (∀ n : Notice, n.inSet (t.port p).pendingSet = true ↔ n = .journal) ∧
      (∀ n : Notice, n.inSet (t.port p).enabledSet = true) ∧ (t.port p).attention = true ∧
      (t.port p).causeByte = 10 ∧ (t.port p).dropped = 0

/-- The start values of the nine blocks but the Port Unit (stated before), field by field, and the exceptions of
RESTART. That the summary counts populated records alone, so that every count of it starts at 0 (log 31), is the model's
reading and not R45's words. The image's ring state at power-on (log 20), the period countdown at the start (log 32),
that RESTART_TAKEN with no OK of a RESTART sent changes nothing (log 23), and that the model's own two fields stand are
the model's choices. -/
def Obligations.StartValues : Prop :=
  (∀ (raw : PerInput Bool) (first : LineMeasurement) (s : State), ∃ t, exec (.powerOn raw first) s = .next t ∧
      let held (lo hi v : Int) : Int := max lo (min hi v)
      emptyCell = ⟨false, false, .noneYet, none, none, none, 0, false, 0, 0, false, 0, 0, .noFlag⟩ ∧
      emptySensor = ⟨false, false, .noneYet, none, 0, false, 0, false, none, 0, none, false⟩ ∧
      t.ring =
        ⟨.enumerating, none, false, 0, false, false, ⟨.auto, none, none⟩, ⟨.auto, none, none⟩, none, [], 200, false, none,
          some ⟨.enumerate, ⟨0x02, 0xFF, [0x00]⟩, .out, .ret, true, none, none, none⟩⟩ ∧
      t.records =
        ⟨List.replicate 320 emptyCell, List.replicate 80 emptySensor,
          ⟨List.replicate 320 emptyCell, List.replicate 80 emptySensor, 0, 0, .enumerating,
            ⟨0, 0, ⟨0, 0, 0, 0⟩, ⟨0, 0, 0, 0⟩, false, false, false, false, false, []⟩⟩, false, 0, 0⟩ ∧
      t.balance = List.replicate 320 ⟨.idle, 0⟩ ∧
      t.envelope =
        ⟨false, 0, 0, none, none, none, none, ⟨0, 0, 1024, 0, 0, 0, .zeroed⟩, ⟨0, 0, 1024, 0, 0, 0, .zeroed⟩,
          ⟨false, false, false, false⟩, true, 0⟩ ∧
      t.monitor = ⟨false, 0, 0, 0, 0, none⟩ ∧
      t.connection =
        ⟨.opened, ⟨.withdrawn, .lapsed, none, none⟩, none, none, none, none, none, none, none, none, none, none⟩ ∧
      t.zones.channels = [] ∧
      (∀ z, t.zone z = ⟨.normal, true, false, false, false, none, none, none, none, none⟩) ∧
      t.cooling =
        ⟨.idle, 0, none, none, false, false, false, 10, none, .normal, false, false, false, none, none⟩ ∧
      (∀ i, t.input i =
        ⟨raw.get i, some (if i = .estop then 5 else 20), false, startLevels.get i, true, startLevels.get i, false⟩) ∧
      startLevels = ⟨true, true, true, false, true, false, false, true, false, false⟩ ∧
      t.lines.sample =
        ⟨held (-20000) 20000 first.current, (held 0 15000 first.stringVoltage).toNat,
          (held 0 15000 first.linkVoltage).toNat, decide (first.current < -20000 ∨ 20000 < first.current)⟩ ∧
      t.lines.outputs
        = ⟨false, false, false, false, ⟨false, false, false, false⟩, 0, 3, 0, 0, false, false, false⟩ ∧
      t.lines.timeBase = 0 ∧ t.lines.minute = 60000 ∧ t.lines.coolant = none ∧
      t.stateUnit = ⟨.setup, false, false, none, Settings.default, .idle⟩ ∧
      t.freeCount = s.freeCount ∧ t.pending = s.pending) ∧
  ∀ (first : LineMeasurement) (s : State),
    (s.stateUnit.restart ≠ .due → exec (.restartTaken first) s = .next s) ∧
    (s.stateUnit.restart = .due → ∃ t u, exec (.restartTaken first) s = .next t ∧
      exec (.powerOn (PerInput.of fun i => (s.input i).raw) first) s = .next u ∧
      t.ring = u.ring ∧ t.records = u.records ∧ t.balance = u.balance ∧ t.envelope = u.envelope ∧
      t.monitor = u.monitor ∧ t.zones = u.zones ∧ t.stateUnit = u.stateUnit ∧ t.pending = s.pending ∧
      t.freeCount = s.freeCount ∧
      t.cooling = { u.cooling with modeEntered := s.lines.timeBase } ∧
      t.lines = { u.lines with timeBase := s.lines.timeBase, minute := s.lines.minute } ∧
      (s.connection.state ≠ .lockout → t.connection = u.connection) ∧
      (s.connection.state = .lockout →
        t.connection = { u.connection with state := .lockout, lockout := s.connection.lockout }))

/-- The cases of a period boundary, the slot list it builds, and the wake that turns DORMANT into RUN before the list is
built. A boundary in ENUMERATING with an attempt on the ring is held pending by the model's choice (log 13), the
OP_STATE record of that RUN carries no port by its choice too (log 41), and a watch window with no node gives its place
in the list to rotation (DEDUCED, log 9). -/
def Obligations.PeriodBoundaryStarts : Prop :=
  ∀ s : State,
    let period :=
      if s.stateUnit.state = .dormant then 1000 * s.settings.ring.patrolPeriod else s.settings.ring.period
    let dormant := s.stateUnit.state = .dormant
    ∃ t, exec .periodBoundary s = .next t ∧
      (s.ring.state = .enumerating → s.ring.attempt = none →
        t = { s with ring :=
              { s.ring with
                countdown := period
                attempt :=
                  some ⟨.enumerate, ⟨0x02, 0xFF, [0x00]⟩, .out, .ret, true, none, none, none⟩ } }) ∧
      (s.ring.state = .enumerating → s.ring.attempt ≠ none →
        t = { s with ring := { s.ring with countdown := period, startPending := true } }) ∧
      (s.ring.state ≠ .enumerating → s.ring.cycle ≠ none →
        t = { s with ring :=
              { s.ring with
                countdown := period, overruns := min 255 (s.ring.overruns + 1), startPending := true } }) ∧
      (s.ring.state ≠ .enumerating → s.ring.cycle = none → ¬ (dormant ∧ s.stateUnit.wakePending = true) →
        t = { s with ring :=
              { s.ring with
                countdown := period
                tokenLost := false
                nodeAnswered := false
                windowA := { s.ring.windowA with current := if dormant then none else s.ring.windowA.chosen }
                windowB := { s.ring.windowB with current := if dormant then none else s.ring.windowB.chosen }
                cycle := some ⟨cycleSlots (decide dormant) s, [], decide dormant⟩
                attempt := some ⟨.token, ⟨0x01, 0xFF, []⟩, .out, .ret, true, none, none, none⟩ } }) ∧
      (s.ring.state ≠ .enumerating → s.ring.cycle = none → dormant → s.stateUnit.wakePending = true →
        t.stateUnit = { s.stateUnit with state := .run, wakePending := false } ∧
        Appended [{ kind := .opState, cause := .opState .run }] s t ∧ PortsNotified s t ∧
        t.ring =
          { s.ring with
            countdown := s.settings.ring.period
            tokenLost := false
            nodeAnswered := false
            windowA := { s.ring.windowA with current := s.ring.windowA.chosen }
            windowB := { s.ring.windowB with current := s.ring.windowB.chosen }
            cycle := some ⟨cycleSlots false s, [], false⟩
            attempt := some ⟨.token, ⟨0x01, 0xFF, []⟩, .out, .ret, true, none, none, none⟩ } ∧
        t.envelope.full = false ∧
        t = { s with
              ring := t.ring, stateUnit := t.stateUnit, envelope := t.envelope, portUnit := t.portUnit })

/-- R13 and the table of R14. That the answer flag of a TOKEN or ENUMERATE frame is not looked at is the model's reading
(log 21). -/
def Obligations.RingReceiverRules : Prop :=
  (∀ (s : State) (port : RingPort),
    (s.ring.attempt = none → exec .ringRequestSent s = .next s ∧
      ∀ bytes, exec (.ringFrameAbort port bytes) s = .next s) ∧
    ∀ a, s.ring.attempt = some a →
      (a.timeout = none →
        exec .ringRequestSent s = .next { s with ring.attempt := some { a with timeout := some 2 } }) ∧
      (a.timeout ≠ none → exec .ringRequestSent s = .next s) ∧
      (a.listensAt ≠ port → ∀ bytes, exec (.ringFrameAbort port bytes) s = .next s) ∧
      (a.listensAt = port →
        exec (.ringFrameAbort port []) s = .next { s with ring.attempt := some { a with rx := none } } ∧
        ∀ (noise rest : List Byte), a.rx = none → 0x7E ∉ noise → rest.length ≤ 2 →
          exec (.ringFrameAbort port (noise ++ 0x7E :: rest)) s = .next s)) ∧
  (∀ (s : State) (job : Job) (f : RingFrame) (n : Nat),
    judge s job f false = .failed .crc ∧
    (judge s .token f true = if f.code = 0x01 ∧ f.address = 0xFF then .accepted else .dropped) ∧
    (judge s .enumerate f true = if f.code = 0x02 ∧ f.address = 0xFF then .accepted else .dropped) ∧
    ∀ k, s.nodeKind n = some k →
      (∀ cells sensors, k = .csn cells sensors →
        judge s (.scan n) f true =
          if ¬ (f.code = 0x03 ∧ f.address.toNat = n) then .dropped
          else if f.kind.getLsbD 7 = false then .failed .unanswered
          else if f.payload.length = 2 + 1 + 2 + 4 * cells + 2 * sensors then .accepted else .failed .shape) ∧
      (∀ channels, k = .dtn channels →
        judge s (.detect n) f true =
          if ¬ (f.code = 0x04 ∧ f.address.toNat = n) then .dropped
          else if f.kind.getLsbD 7 = false then .failed .unanswered
          else if f.payload.length = 3 * channels then .accepted else .failed .shape))

/-- R1, and R13 and R14 for a ring frame of any length at the attempt's port. `u` is the state just before the last
byte. -/
def Obligations.RingFrameReassembled : Prop :=
  (∀ (s : State) (port : RingPort) (bytes : List Byte), (∀ a, s.ring.attempt = some a → a.listensAt ≠ port) →
    exec (.ringFrameReceived port bytes) s = .next s ∧
    exec (.ringAnswerTimeout port bytes) s = exec (.ringAnswerTimeout port []) s) ∧
  ∀ (s : State) (a : Attempt) (port : RingPort) (noise : List Byte) (f : RingFrame),
    s.ring.attempt = some a → a.rx = none → a.listensAt = port → 0x7E ∉ noise → f.payload.length ≤ 200 →
    let before (bytes : List Byte) : Attempt := { a with rx := some bytes.dropLast }
    let u (bytes : List Byte) : State := { s with ring.attempt := some (before bytes) }
    let body := f.covered ++ bytes16 (ringCheck f.covered)
    let received := exec (.ringFrameReceived port (noise ++ 0x7E :: body)) s
    (judge s a.job f true = .accepted → received = .next (acceptFrame (before body) f (u body))) ∧
    (∀ r, judge s a.job f true = .failed r → received = .next (failAttempt r (before body) (u body))) ∧
    (judge s a.job f true = .dropped → received = .next s) ∧
    (∀ check : List Byte, check.length = 2 → check ≠ bytes16 (ringCheck f.covered) →
      exec (.ringFrameReceived port (noise ++ 0x7E :: f.covered ++ check)) s
        = .next (failAttempt .crc (before (f.covered ++ check)) (u (f.covered ++ check)))) ∧
    ∀ kind address length : Byte, 200 < length.toNat →
      exec (.ringFrameReceived port (noise ++ [0x7E, kind, address, length])) s
        = .next (failAttempt .length (before [kind, address, length]) (u [kind, address, length]))

/-- R6 with the effects of R8, for every list of slots still to come. Where a slot that takes time is among them its
first attempt is that of R18 and R19; where none is, `nextSlot` ends the cycle (`Obligations.CycleEndPublishes`,
`Obligations.CycleEndBranches`). -/
def Obligations.TokenSlotOutcome : Prop :=
  ∀ (s : State) (a : Attempt),
    s.ring.attempt = some a → a.job = .token → a.rx = none → a.listensAt = .ret →
    let returned := Instr.ringFrameReceived .ret (RingFrame.mk 0x01 0xFF []).bytes
    let healed : State :=
      { s with ring.directory := s.ring.directory.map (fun e => { e with direction := .out }) }
    let lost : State := { s with ring.tokenLost := true }
    let isLast := a.timeout ≠ none ∧ (a.retryLeft && s.settings.ring.retry) = false ∧ a.fallback = none
    exec returned s = .next (nextSlot (if s.ring.state = .closed then s else setRingState .closed healed)) ∧
    (isLast → exec (.ringAnswerTimeout .ret []) s =
      .next (nextSlot (if s.ring.state = .closed then setRingState .split lost else lost))) ∧
    ∀ (slots rest : List Slot) (visited after : List Nat) (dormant : Bool) (pointer : Option Nat) (job : Job),
    s.ring.cycle = some ⟨slots, visited, dormant⟩ → NextSlotBegins s slots rest visited after pointer job →
    let begun (t : State) : Prop :=
      t.ring.attempt = some (firstAttempt t job) ∧ t.ring.cycle = some ⟨rest, after, dormant⟩ ∧
      t.ring.rotation = pointer ∧
      t = { s with ring := t.ring, envelope := t.envelope, portUnit := t.portUnit } ∧ PortsNotified s t
    (∃ t, exec returned s = .next t ∧ begun t ∧ t.ring.state = .closed ∧ t.ring.tokenLost = s.ring.tokenLost ∧
      (s.ring.state = .closed →
        t = { s with ring :=
              { s.ring with attempt := t.ring.attempt, cycle := t.ring.cycle, rotation := t.ring.rotation } }) ∧
      (s.ring.state ≠ .closed →
        t.ring.directory = healed.ring.directory ∧
        Appended [{ kind := .ringState, cause := .ring .closed }] s t ∧ PendingEverywhere .ring t ∧
        t.envelope.full = false)) ∧
    (isLast →
      ∃ t, exec (.ringAnswerTimeout .ret []) s = .next t ∧ begun t ∧
        t.ring.tokenLost = true ∧ t.ring.state = (if s.ring.state = .closed then .split else s.ring.state) ∧
        t.ring.directory = s.ring.directory ∧
        (s.ring.state = .closed →
          Appended [{ kind := .ringState, cause := .ring .split }] s t ∧ PendingEverywhere .ring t ∧
          t.envelope.full = false) ∧
        (s.ring.state ≠ .closed → t.envelope = s.envelope ∧ t.portUnit = s.portUnit))

/-- The counts, the repeat, the second phase and the failed slot (R10, R14, R15, R18, R19, R123). A frame that ends its
attempt does so by `failAttempt` (`Obligations.RingFrameReassembled`), and so does a timeout, with any bytes before it:
those that end the attempt leave nothing to time out, and a frame they leave in RECEIVING is dropped. The frame is built
anew (R60). The next slot is reached from `failed`, whatever is still to come; where no slot that takes time is left,
`nextSlot` ends the cycle. What a failed DETECT slot leaves of the ring in DORMANT holds where a node attempt is inside a
cycle, which every step keeps (`Obligations.RingKept`). A lost token follows alike from every failure (R6). That an
attempt whose request has not been sent does not time out, and that bytes after an attempt's end are discarded, are the
model's choices (logs 2 and 6). -/
def Obligations.TimeoutRepeatsOrFallsBack : Prop :=
  (∀ (s : State) (port : RingPort), s.ring.attempt = none → exec (.ringAnswerTimeout port []) s = .next s) ∧
  ∀ (s : State) (a : Attempt), s.ring.attempt = some a →
    (∀ port, a.timeout = none → exec (.ringAnswerTimeout port []) s = .next s) ∧
    (∀ port, a.timeout ≠ none → exec (.ringAnswerTimeout port []) s = .next (failAttempt .timeout a s)) ∧
    (∀ (port : RingPort) (bytes : List Byte),
      let u := (receiveBytes port bytes s).1
      let ended := (receiveBytes port bytes s).2
      exec (.ringFrameReceived port bytes) s = .next u ∧
      (ended = true ∨ a.timeout = none → exec (.ringAnswerTimeout port bytes) s = .next u) ∧
      (ended = false → ∃ rx,
        u = { s with ring.attempt := some { a with rx := rx } } ∧
        (a.timeout ≠ none →
          exec (.ringAnswerTimeout port bytes) s = .next (failAttempt .timeout { a with rx := rx } u)))) ∧
    ∀ r : AttemptFailure,
      let t := failAttempt r a s
      let last := (a.retryLeft && s.settings.ring.retry) = false ∧ a.fallback = none
      let counted : List DirEntry :=
        s.ring.directory.map fun e =>
          if a.job = .scan e.address ∨ a.job = .detect e.address then
            if r = .timeout ∨ r = .unanswered then { e with timeouts := min 255 (e.timeouts + 1) }
            else { e with crcErrors := min 255 (e.crcErrors + 1) }
          else e
      let frame := jobFrame s a.job
      (a.retryLeft = true → s.settings.ring.retry = true →
        t = { s with ring :=
              { s.ring with
                directory := counted
                attempt := some { a with frame := frame, retryLeft := false, rx := none, timeout := none } } }) ∧
      (∀ port, (a.retryLeft && s.settings.ring.retry) = false → a.fallback = some port →
        t = { s with ring :=
              { s.ring with
                directory := counted
                attempt := some ⟨a.job, frame, port, port, true, none, none, none⟩ } }) ∧
      (last → a.job = .enumerate → s.ring.startPending = false → r = .timeout ∨ r = .crc ∨ r = .length →
        t = { s with ring :=
              { s.ring with
                attempt := none, lastResult := some (if r = .timeout then .openRing else .corrupt) } }) ∧
      (last → a.job = .token → t = failAttempt .timeout a s) ∧
      ∀ (n : Nat) (e : DirEntry), last → a.job = .scan n ∨ a.job = .detect n → s.dirEntry n = some e →
        let failures := min 255 (e.failures + 1)
        let entries := counted.map (fun x =>
          if x.address = n then
            { x with
              failures := min 255 (x.failures + 1)
              direction := if s.ring.state = .closed then x.direction else .unknown }
          else x)
        let failed : State :=
          if a.job = .scan n then { s with ring.directory := entries }
          else detectFailure n failures { s with ring.directory := entries }
        t = nextSlot failed ∧ failed.records = s.records ∧
        (a.job = .scan n ∨ s.stateUnit.state ≠ .dormant → failed.ring = { s.ring with directory := entries }) ∧
        (NodeAttemptInCycle s →
          failed.ring =
            { s.ring with
              directory := entries, countdown := failed.ring.countdown, overruns := failed.ring.overruns
              startPending := failed.ring.startPending }) ∧
        (a.job = .detect n → failed.zones.channels = s.zones.channels.map (fun c =>
          if c.node = n ∧ 3 ≤ failures then
            { c with
              fault := some .nodeFailed, level := .quiet, candidate := none, run := 0, reference := none
              referenceAge := 0, lastRise := none }
          else c)) ∧
        ∀ (slots rest : List Slot) (visited after : List Nat) (dormant : Bool) (pointer : Option Nat) (job : Job),
          s.ring.cycle = some ⟨slots, visited, dormant⟩ → NextSlotBegins s slots rest visited after pointer job →
          t = { failed with ring :=
                { failed.ring with
                  attempt := some (firstAttempt t job), rotation := pointer, cycle := some ⟨rest, after, dormant⟩ } }

/-- R18, R19, R24 to R26, R32 and R122, for a node of any size and any slots still to come; where no slot that takes
time is left, `nextSlot` ends the cycle. The steps of one record and of one channel are stated on their own, and the
delivery to the zones as `detectDelivery`. That the cells of a delivery act before its sensors, each in number order, is
the model's choice (log 38). -/
def Obligations.ScanAnswerDelivered : Prop :=
  ∀ (s : State) (a : Attempt) (port : RingPort) (n : Nat) (slots : List Slot) (visited : List Nat) (dormant : Bool)
    (e : DirEntry),
    s.ring.attempt = some a → a.rx = none → a.listensAt = port →
    s.ring.cycle = some ⟨slots, visited, dormant⟩ → n < 256 → s.dirEntry n = some e →
    let reached (x : DirEntry) : DirEntry :=
      { x with
        failures := 0
        direction :=
          if s.ring.state = .closed then x.direction else match a.sentFrom with | .out => .out | .ret => .ret }
    let goesOn (u t : State) (directory : List DirEntry) : Prop :=
      t = nextSlot u ∧
      u.ring =
        { s.ring with
          attempt := u.ring.attempt, directory := directory, nodeAnswered := true, countdown := u.ring.countdown
          overruns := u.ring.overruns, startPending := u.ring.startPending } ∧
      (s.stateUnit.state ≠ .dormant → u.ring.countdown = s.ring.countdown ∧ u.ring.overruns = s.ring.overruns ∧
        u.ring.startPending = s.ring.startPending) ∧
      ∀ (rest : List Slot) (after : List Nat) (pointer : Option Nat) (job : Job),
        NextSlotBegins s slots rest visited after pointer job →
        t = { u with ring :=
              { u.ring with
                attempt := some (firstAttempt t job), rotation := pointer, cycle := some ⟨rest, after, dormant⟩ } }
    let arrived (f : RingFrame) (directory : List DirEntry) : State :=
      { s with ring :=
          { s.ring with
            attempt := some { a with rx := some (f.covered ++ bytes16 (ringCheck f.covered)).dropLast }
            directory := directory, nodeAnswered := true } }
    (∀ (place : Span) (counter bleed : Word16) (status : Byte) (cells : List (Word16 × Word16)) (temps : List Word16),
    a.job = .scan n → e.kind = .csn cells.length temps.length → cells.length ≤ 16 → temps.length ≤ 4 →
    nodeSpan s.ring.directory n = some place →
    let payload :=
      bytes16 counter ++ [status] ++ bytes16 bleed ++ cells.flatMap (fun c => bytes16 c.1 ++ bytes16 c.2)
        ++ temps.flatMap bytes16
    let frame := RingFrame.mk 0x83 (byteOf n) payload
    let fresh := e.lastCounter ≠ some counter
    let again := e.lastCounter.any fun l => decide (0x8000 ≤ (counter - l).toNat)
    let entries := s.ring.directory.map (fun x =>
      if x.address = n then
        { reached x with lastCounter := some counter, status := some ⟨status.getLsbD 0, bleed⟩ } else x)
    let before := arrived frame entries
    let counted := if again then raise .ring before else before
    let sampled := cells.zipIdx.foldl (fun x c =>
      sampleCell (status.getLsbD 0) (place.firstCell + c.2) (cellReading c.1.1, cellReading c.1.2) x) counted
    ∃ u t, exec (.ringFrameReceived port frame.bytes) s = .next t ∧ goesOn u t entries ∧
      (¬ fresh → u = before) ∧
      (fresh →
        (∀ (k : Nat) (c : Word16 × Word16), cells[k]? = some c →
          u.records.cells[place.firstCell + k]? = (s.records.cells[place.firstCell + k]?).map
            (Cell.sample s.settings.cell (status.getLsbD 0) (cellReading c.1) (cellReading c.2))) ∧
        (∀ k, k < place.firstCell ∨ place.firstCell + cells.length ≤ k →
          u.records.cells[k]? = s.records.cells[k]?) ∧
        (∀ (k : Nat) (w : Word16), temps[k]? = some w →
          u.records.sensors[place.firstSensor + k]? = (s.records.sensors[place.firstSensor + k]?).map
            (Sensor.sample s.settings.cell (if -400 ≤ w.toInt ∧ w.toInt ≤ 1250 then some w.toInt else none))) ∧
        (∀ k, k < place.firstSensor ∨ place.firstSensor + temps.length ≤ k →
          u.records.sensors[k]? = s.records.sensors[k]?) ∧
        u.records.image = s.records.image ∧ (again = true → PendingEverywhere .ring u) ∧
        u = temps.zipIdx.foldl (fun x v =>
          sampleSensor (place.firstSensor + v.2)
            (if -400 ≤ v.1.toInt ∧ v.1.toInt ≤ 1250 then some v.1.toInt else none) x) sampled)) ∧
    ∀ readings : List (Byte × Word16), a.job = .detect n → e.kind = .dtn readings.length → readings.length ≤ 8 →
      let frame := RingFrame.mk 0x84 (byteOf n) (readings.flatMap fun r => r.1 :: bytes16 r.2)
      let reading (r : Byte × Word16) : DetectReading := ⟨r.1.toNat % 128, r.1.getLsbD 7, r.2⟩
      let entries := s.ring.directory.map (fun x => if x.address = n then reached x else x)
      let u := detectDelivery n (readings.map reading) (arrived frame entries)
      ∃ t, exec (.ringFrameReceived port frame.bytes) s = .next t ∧ goesOn u t entries ∧
        u.records = s.records ∧
        u.zones.channels = s.zones.channels.map (fun c =>
          match readings[c.position]? with
          | some r => if c.node = n then c.apply s.settings.fire (reading r) else c
          | none => c)

/-- R10, R11, R30, R31, R45 and R121, for every list of descriptors that passes the four checks, and for every frame
that does not. `numbered` gives each channel its node, its position there and its node's place among the DTNs. That a
frame without a count byte is BAD_DESCRIPTOR (log 21), and that a boundary held pending starts the next attempt at once
(log 13), are the model's reading and its choice, as are the summary's counts, of populated records alone (log 31), and
the ring state that the image keeps (log 20). -/
def Obligations.EnumerationSucceeds : Prop :=
  (∀ (s : State) (a : Attempt) (kinds : List NodeKind),
    s.ring.state = .enumerating → s.ring.attempt = some a → a.job = .enumerate → a.rx = none → a.listensAt = .ret →
    (∀ k ∈ kinds, match k with
      | .csn cells sensors => 1 ≤ cells ∧ cells ≤ 16 ∧ sensors ≤ 4
      | .dtn channels => 1 ≤ channels ∧ channels ≤ 8) →
    kinds.countP (·.isCsn) ≤ 20 → kinds.countP (!·.isCsn) ≤ 4 →
    let descriptor (k : NodeKind) : List Byte :=
      match k with
      | .csn cells sensors => [0x01, byteOf cells, byteOf sensors]
      | .dtn channels => [0x02, byteOf channels, 0x00]
    let cellsOf (k : NodeKind) : Nat := match k with | .csn cells _ => cells | .dtn _ => 0
    let sensorsOf (k : NodeKind) : Nat := match k with | .csn _ sensors => sensors | .dtn _ => 0
    let channelsOf (k : NodeKind) : Nat := match k with | .csn _ _ => 0 | .dtn channels => channels
    let detectors := kinds.zipIdx.filter fun (k, _) => !k.isCsn
    let numbered : List (Nat × Nat × Nat) :=
      detectors.zipIdx.flatMap fun (d, k) => (List.range (channelsOf d.1)).map fun position => (d.2, position, k)
    ∃ t, exec (.ringFrameReceived .ret
          (RingFrame.mk 0x02 0xFF (byteOf kinds.length :: kinds.flatMap descriptor)).bytes) s = .next t ∧
      t.ring.state = .closed ∧ t.ring.lastResult = some .ok ∧ t.ring.attempt = none ∧
      t.ring.overruns = s.ring.overruns ∧ t.ring.directory.length = kinds.length ∧
      (∀ (n : Nat) (k : NodeKind), kinds[n]? = some k → t.ring.directory[n]? = some
        ⟨n, k, if k.isCsn then some ((s.settings.map.csnZones[n]?).getD .z1) else none, .out, 0, 0, 0, none, none⟩) ∧
      t.ring.windowA = ⟨.auto, none, none⟩ ∧ t.ring.windowB = ⟨.auto, none, none⟩ ∧
      t.ring.rotation = kinds.findIdx? (·.isCsn) ∧
      t.records.cells = (List.range 320).map (fun n => { emptyCell with populated := n < (kinds.map cellsOf).sum }) ∧
      t.records.sensors = (List.range 80).map (fun n => { emptySensor with populated := n < (kinds.map sensorsOf).sum }) ∧
      t.records.image.cells = t.records.cells ∧ t.records.image.sensors = t.records.sensors ∧
      t.records.image.cycle = s.records.image.cycle + 1 ∧ t.records.image.stamp = s.lines.timeBase ∧
      t.records.image.ringState = s.records.image.ringState ∧
      (let cells := (kinds.map cellsOf).sum
        let sensors := (kinds.map sensorsOf).sum
        t.records.image.summary =
          { populatedCells := cells, populatedSensors := sensors, cells := ⟨cells, 0, 0, 0⟩, sensors := ⟨sensors, 0, 0, 0⟩
            anyStale := false, anyLost := false, anyDisagree := false, sumMismatch := false, anyLimit := false
            thermalNodes := [] }) ∧
      t.records.sumMismatch = false ∧ t.records.sumMismatchRun = 0 ∧ t.records.sumAgreeRun = 0 ∧
      t.zones.channels = (numbered.zipIdx.map fun (c, n) =>
        ⟨c.1, c.2.1, none,
          (match s.settings.map.channelZones[n]? with
            | some (.zone z) => some z
            | some .unused => none
            | _ => [Zone.z1, .z2, .z3, .z4][c.2.2]?),
          none, some .noAnswerYet, .quiet, none, 0, none, 0, none⟩) ∧
      (∀ z, (t.zone z).state = (s.zone z).state ∧ (t.zone z).thermal = false) ∧
      t.balance = s.balance.map (fun _ => ⟨.idle, 0⟩) ∧ t.connection = s.connection ∧
      t.stateUnit = s.stateUnit ∧ t.cooling = s.cooling ∧ t.lines = s.lines ∧
      Appended [{ kind := .ringState, cause := .ring .closed }] s t ∧ PendingEverywhere .ring t ∧ PortsNotified s t) ∧
  ∀ (s : State) (a : Attempt),
    s.ring.state = .enumerating → s.ring.attempt = some a → a.job = .enumerate → a.rx = none → a.listensAt = .ret →
    let failed (r : EnumResult) : State :=
      { s with ring :=
          { s.ring with
            lastResult := some r, startPending := false
            attempt :=
              if s.ring.startPending then
                some ⟨.enumerate, ⟨0x02, 0xFF, [0x00]⟩, .out, .ret, true, none, none, none⟩
              else none } }
    let gives (payload : List Byte) (r : EnumResult) : Prop :=
      exec (.ringFrameReceived .ret (RingFrame.mk 0x02 0xFF payload).bytes) s = .next (failed r)
    let good (d : Byte × Byte × Byte) : Prop :=
      (d.1 = 0x01 ∧ 1 ≤ d.2.1.toNat ∧ d.2.1.toNat ≤ 16 ∧ d.2.2.toNat ≤ 4) ∨
        (d.1 = 0x02 ∧ 1 ≤ d.2.1.toNat ∧ d.2.1.toNat ≤ 8 ∧ d.2.2 = 0)
    gives [] .badDescriptor ∧
    (∀ (count : Byte) (rest : List Byte), 1 + rest.length ≤ 200 →
      (24 < count.toNat → gives (count :: rest) .tooMany) ∧
      (count.toNat ≤ 24 → 1 + rest.length ≠ 1 + 3 * count.toNat → gives (count :: rest) .badDescriptor)) ∧
    (∀ descriptors : List (Byte × Byte × Byte), descriptors.length ≤ 24 →
      let payload := byteOf descriptors.length :: descriptors.flatMap fun d => [d.1, d.2.1, d.2.2]
      ((∃ d ∈ descriptors, ¬ good d) → gives payload .badDescriptor) ∧
      ((∀ d ∈ descriptors, good d) →
        20 < descriptors.countP (fun d => d.1 == 0x01) ∨ 4 < descriptors.countP (fun d => d.1 == 0x02) →
        gives payload .tooMany)) ∧
    ((a.retryLeft && s.settings.ring.retry) = false → a.fallback = none →
      (∀ (f : RingFrame) (check : List Byte), f.payload.length ≤ 200 → check.length = 2 →
        check ≠ bytes16 (ringCheck f.covered) →
        exec (.ringFrameReceived .ret (0x7E :: f.covered ++ check)) s = .next (failed .corrupt)) ∧
      ∀ kind address length : Byte, 200 < length.toNat →
        exec (.ringFrameReceived .ret [0x7E, kind, address, length]) s = .next (failed .corrupt))

/-- R33, for every settings record, record and sample, with the rule's own figures for the default shift. -/
def Obligations.ShiftFilter : Prop :=
  ∀ (c : CellSettings) (fault : Bool) (x q : Option Nat) (r : Cell),
    let after := (r.sample c fault x q).filtered
    (x = none → after = r.filtered) ∧
    (∀ p, x = some p → r.filtered = none ∨ c.filterShift = 0 → after = some p) ∧
    (∀ p f, x = some p → r.filtered = some f → c.filterShift ≠ 0 →
      ∃ g, after = some g ∧
        (g : Int) = f + ((p : Int) - f + 2 ^ (c.filterShift - 1)) / 2 ^ c.filterShift ∧ min f p ≤ g ∧ g ≤ max f p ∧
        (c.filterShift = 3 → (g = f ↔ f ≤ p + 4 ∧ p ≤ f + 3) ∧ (p = f + 100 → g = f + 13) ∧ (f = p + 100 → g + 12 = f) ∧
          (f = 33000 → p = 33100 → g = 33013)))

/-- R34 to R41, as the steps of one fresh sample and as their effects, with the wake cause of R181. -/
def Obligations.SampleSteps : Prop :=
  ((∀ (c : CellSettings) (fault : Bool) (p q : Option Nat) (r : Cell),
    let stored : Cell :=
      { r with
        primary := p, secondary := q, age := 0, sampled := true, condition := .fresh
        filtered := nextFiltered c.filterShift p r.filtered }
    let mismatch := match p, q with
      | some a, some b => c.crossCheck < max a b - min a b ∨ fault = true
      | _, _ => True
    (mismatch → crossCheck c fault stored =
      { stored with
        agreeRun := 0, mismatchRun := min 3 (r.mismatchRun + 1)
        disagree := r.disagree || decide (3 ≤ r.mismatchRun + 1) }) ∧
    (¬ mismatch → crossCheck c fault stored =
      { stored with
        mismatchRun := 0, agreeRun := min 3 (r.agreeRun + 1)
        disagree := r.disagree && decide (r.agreeRun + 1 < 3) }) ∧
    (∀ u : Cell,
      let run := match u.primary with
        | none => 0
        | some v =>
          if u.limit = .over then (if (v : Int) < (c.ovTrip : Int) - c.hysteresis then min 8 (u.overRun + 1) else 0)
          else if c.ovTrip < v then min 8 (u.overRun + 1) else 0
      overCheck c u =
        if c.persistence ≤ run then { u with limit := if u.limit = .over then .noFlag else .over, overRun := 0 }
        else { u with overRun := run }) ∧
    (∀ u : Cell,
      let run := match u.primary with
        | none => 0
        | some v =>
          if u.limit = .under then (if c.uvTrip + c.hysteresis < v then min 8 (u.underRun + 1) else 0)
          else if v < c.uvTrip then min 8 (u.underRun + 1) else 0
      underCheck c u =
        if c.persistence ≤ run then { u with limit := if u.limit = .under then .noFlag else .under, underRun := 0 }
        else { u with underRun := run }) ∧
    r.sample c fault p q = underCheck c (overCheck c (crossCheck c fault stored))) ∧
  ∀ (c : CellSettings) (reading : Option Int) (r : Sensor), 0 < c.riseWindow →
    let stored : Sensor := { r with reading := reading, age := 0, sampled := true, condition := .fresh }
    let referred : Sensor :=
      if r.reference = none ∧ reading ≠ none then { stored with reference := reading, referenceAge := 0 } else stored
    let run := match reading with
      | none => 0
      | some v =>
        if r.overTemp then (if v < c.hardLimit - 50 then min 8 (r.overRun + 1) else 0)
        else if c.hardLimit ≤ v then min 8 (r.overRun + 1) else 0
    let judged : Sensor :=
      if c.persistence ≤ run then { referred with overTemp := !r.overTemp, overRun := 0 }
      else { referred with overRun := run }
    (∀ v b, reading = some v → r.reference = some b → 1000 * c.riseWindow ≤ r.referenceAge →
      r.sample c reading =
        { judged with
          lastRise := some (v - b), reference := some v, referenceAge := 0
          thermalEvent := decide (c.eventRise ≤ v - b ∨ c.eventTemperature ≤ v) }) ∧
    (reading = none ∨ r.reference = none ∨ r.referenceAge < 1000 * c.riseWindow →
      r.sample c reading =
        { judged with thermalEvent := r.thermalEvent || reading.any fun v => c.eventTemperature ≤ v })) ∧
  ((∀ (s : State) (n : Nat) (fault : Bool) (p q : Option Nat) (old : Cell), s.records.cells[n]? = some old →
    let new := old.sample s.settings.cell fault p q
    let t := sampleCell fault n (p, q) s
    t.records.cells[n]? = some new ∧ (∀ k, k ≠ n → t.records.cells[k]? = s.records.cells[k]?) ∧
    (old.masked = true ∨
        ((new.limit = old.limit ∨ new.limit = .noFlag) ∧ (new.disagree = true → old.disagree = true)) →
      t = { s with records.cells := t.records.cells }) ∧
    (old.masked = false → new.limit = old.limit ∨ new.limit = .noFlag →
      new.disagree = true → old.disagree = false →
      t = { s with records.cells := t.records.cells, portUnit := t.portUnit } ∧ PortsNotified s t ∧
      JournalKept s t ∧ PendingEverywhere .cell t) ∧
    (old.masked = false → new.limit ≠ old.limit → new.limit ≠ .noFlag →
      t.connection.lastTrip = some
        ⟨if new.limit = .over then .cellOver else .cellUnder, .hard, none, some (.cell n), none, s.lines.timeBase⟩ ∧
      PendingEverywhere .cell t ∧
      (s.stateUnit.state = .run → t.stateUnit = { s.stateUnit with sleepPending := false }) ∧
      (s.stateUnit.state = .dormant → t.stateUnit.wakePending = true ∨ t.stateUnit.state = .run) ∧
      (s.stateUnit.state = .setup → t.stateUnit = s.stateUnit) ∧
      t = { s with
            records.cells := t.records.cells, ring := t.ring, connection := t.connection
            lines.outputs := t.lines.outputs, envelope := t.envelope, monitor := t.monitor, portUnit := t.portUnit
            stateUnit := t.stateUnit } ∧ PortsNotified s t) ∧
    (old.masked = false → new.disagree = true → old.disagree = false → PendingEverywhere .cell t)) ∧
  ∀ (s : State) (n : Nat) (reading : Option Int) (old : Sensor), s.records.sensors[n]? = some old →
    let new := old.sample s.settings.cell reading
    let t := sampleSensor n reading s
    t.records.sensors[n]? = some new ∧ (∀ k, k ≠ n → t.records.sensors[k]? = s.records.sensors[k]?) ∧
    (old.masked = true ∨ new.overTemp = false ∨ old.overTemp = true →
      t = { s with records.sensors := t.records.sensors }) ∧
    (old.masked = false → new.overTemp = true → old.overTemp = false →
      t.connection.lastTrip = some ⟨.cellOverTemp, .hard, none, some (.sensor n), none, s.lines.timeBase⟩ ∧
      PendingEverywhere .cell t ∧
      (s.stateUnit.state = .run → t.stateUnit = { s.stateUnit with sleepPending := false }) ∧
      (s.stateUnit.state = .dormant → t.stateUnit.wakePending = true ∨ t.stateUnit.state = .run) ∧
      (s.stateUnit.state = .setup → t.stateUnit = s.stateUnit) ∧
      t = { s with
            records.sensors := t.records.sensors, ring := t.ring, connection := t.connection
            lines.outputs := t.lines.outputs, envelope := t.envelope, monitor := t.monitor, portUnit := t.portUnit
            stateUnit := t.stateUnit } ∧ PortsNotified s t))

/-- R43 and R44. `lost` holds of a record that this cycle end takes to LOST: past the limit, with the rows of freshness
tried in their order (log 35). The order among several cells is the model's choice (log 38). -/
def Obligations.RecordsAged : Prop :=
  ∀ (s : State) (dormant : Bool),
    let limit := if dormant then s.settings.cell.dormantLost else s.settings.cell.lostLimit
    let stale := if dormant then s.settings.cell.dormantStale else s.settings.cell.staleLimit
    let lost (populated masked sampled : Bool) (old : Condition) (age : Nat) : Prop :=
      populated = true ∧ masked = false ∧ (old = .fresh ∨ old = .stale) ∧
        stale ≤ (if sampled then age else min 255 (age + 1)) ∧ limit ≤ (if sampled then age else min 255 (age + 1))
    let cellLost (k : Nat) : Prop :=
      k < 320 ∧ ∃ c, s.records.cells[k]? = some c ∧ lost c.populated c.masked c.sampled c.condition c.age
    let sensorLost (k : Nat) : Prop :=
      k < 80 ∧ ∃ x, s.records.sensors[k]? = some x ∧ lost x.populated x.masked x.sampled x.condition x.age
    let t := ageRecords dormant s
    ((∀ k, ¬ cellLost k) → (∀ k, ¬ sensorLost k) → t = { s with records := t.records }) ∧
    ((∃ k, cellLost k) ∨ (∃ k, sensorLost k) → PendingEverywhere .cell t) ∧
    ((∀ k, ¬ cellLost k) → t = { s with records := t.records, portUnit := t.portUnit } ∧ JournalKept s t) ∧
    (∀ k, cellLost k → (∀ j, cellLost j → j ≤ k) →
      t.connection.lastTrip = some ⟨.cellLost, .hard, none, some (.cell k), none, s.lines.timeBase⟩) ∧
    (∀ k, cellLost k → (∀ j, cellLost j → k ≤ j) → s.connection.state = .closed →
      s.live .negAux = true ∨ s.live .posAux = true →
      t.connection.state = .opening ∧
      t.connection.opening = some ⟨.hard, .trip .cellLost, none, none, some (.cell k), false⟩ ∧
      Appended [{ kind := .trip, cause := .trip .cellLost, location := some (.cell k) }] s t ∧
      PendingEverywhere .trip t) ∧
    let cells := s.records.cells
    let v := s.lines.sample.stringVoltage
    let total := ((cells.filter (·.populated)).map fun c => c.primary.getD 0).sum / 1000
    let qualifies : Prop :=
      (∃ c ∈ cells, c.populated = true) ∧ ∀ c ∈ cells, c.populated = true → c.condition = .fresh ∧ c.primary ≠ none
    let mismatch : Prop := max (v * 2 / 100) 50 < max total v - min total v
    let u := sumCheck s
    (¬ qualifies → u = s) ∧
    (qualifies → mismatch →
      u = { s with
            records := { s.records with
              sumAgreeRun := 0, sumMismatchRun := min 3 (s.records.sumMismatchRun + 1)
              sumMismatch := s.records.sumMismatch || decide (3 ≤ s.records.sumMismatchRun + 1) }
            portUnit := u.portUnit } ∧ PortsNotified s u ∧ JournalKept s u ∧
      (u.records.sumMismatch = true → s.records.sumMismatch = false → PendingEverywhere .cell u) ∧
      (u.records.sumMismatch = s.records.sumMismatch → u.portUnit = s.portUnit)) ∧
    (qualifies → ¬ mismatch →
      u = { s with records := { s.records with
            sumMismatchRun := 0, sumAgreeRun := min 3 (s.records.sumAgreeRun + 1)
            sumMismatch := s.records.sumMismatch && decide (s.records.sumAgreeRun + 1 < 3) } })

/-- R17, R27 and R42 to R46 at the end of a cycle whose ring state is decided already, with no sleep, enumeration or
start pending. `nextSlot` is what a TOKEN slot and a node slot reach as they end (`Obligations.TokenSlotOutcome`,
`Obligations.TimeoutRepeatsOrFallsBack`, `Obligations.ScanAnswerDelivered`). That the rows of freshness are tried in
their order (log 35), and that the summary counts and looks at populated records alone, where R45 says unmasked ones
(log 31), are the model's reading, and the order of the five blocks is its choice (log 10). The trips and notices of the
ageing, the sum check and what each block does at a publication are stated on their own. -/
def Obligations.CycleEndPublishes : Prop :=
  ∀ (s : State) (slots : List Slot) (visited : List Nat) (dormant : Bool),
    s.ring.cycle = some ⟨slots, visited, dormant⟩ → CycleOver s slots visited → s.ring.state ≠ .enumerating →
    (s.ring.tokenLost = true → s.ring.state = if s.ring.nodeAnswered then .split else .severed) →
    s.ring.startPending = false → s.ring.enumeratePending = false → s.stateUnit.sleepPending = false →
    s.records.cells.length = 320 → s.records.sensors.length = 80 →
    let stale := if dormant then s.settings.cell.dormantStale else s.settings.cell.staleLimit
    let lost := if dormant then s.settings.cell.dormantLost else s.settings.cell.lostLimit
    let age (sampled : Bool) (old : Condition) (n : Nat) : Nat :=
      if sampled = true ∨ old = .noneYet then n else min 255 (n + 1)
    let condition (old : Condition) (n : Nat) : Condition :=
      if old = .noneYet ∨ old = .lost then old else if n < stale then .fresh else if n < lost then .stale else .lost
    let t := nextSlot s
    (∀ a, s.ring.attempt = some a → a.job = .token → a.rx = none → a.listensAt = .ret → s.ring.state = .closed →
        exec (.ringFrameReceived .ret (RingFrame.mk 0x01 0xFF []).bytes) s = .next t) ∧
      (∀ (k : Nat) (c : Cell), s.records.cells[k]? = some c → t.records.cells[k]? = some
        (if c.populated then
          { c with
            age := age c.sampled c.condition c.age, sampled := false
            condition := condition c.condition (age c.sampled c.condition c.age) }
        else c)) ∧
      (∀ (k : Nat) (x : Sensor), s.records.sensors[k]? = some x →
        let n := age x.sampled x.condition x.age
        let y : Sensor := { x with age := n, sampled := false, condition := condition x.condition n }
        t.records.sensors[k]? = some
          (if x.populated = false then x
          else if y.condition = .lost ∧ x.condition ≠ .lost then
            { y with reference := none, referenceAge := 0, lastRise := none, thermalEvent := false, overRun := 0 }
          else y)) ∧
      t.records.image.cells = t.records.cells.map (fun c => { c with sampled := false }) ∧
      t.records.image.sensors = t.records.sensors.map (fun x => { x with sampled := false }) ∧
      t.records.image.cycle = s.records.image.cycle + 1 ∧ t.records.image.stamp = s.lines.timeBase ∧
      t.records.image.ringState = s.ring.state ∧ t.envelope.cycle = t.records.image.cycle ∧
      (let m := t.records.image.summary
        let cells := t.records.cells.filter fun c => c.populated && !c.masked
        let sensors := t.records.sensors.filter fun x => x.populated && !x.masked
        let counts (l : List Condition) : ConditionCounts :=
          ⟨l.count .noneYet, l.count .fresh, l.count .stale, l.count .lost⟩
        m.populatedCells = t.records.cells.countP (·.populated) ∧
        m.populatedSensors = t.records.sensors.countP (·.populated) ∧
        m.cells = counts (cells.map fun c => c.condition) ∧ m.sensors = counts (sensors.map fun x => x.condition) ∧
        (m.anyStale = true ↔ (∃ c ∈ cells, c.condition = .stale) ∨ ∃ x ∈ sensors, x.condition = .stale) ∧
        (m.anyLost = true ↔ ∃ c ∈ cells, c.condition = .lost) ∧
        (m.anyDisagree = true ↔ ∃ c ∈ cells, c.disagree = true) ∧ m.sumMismatch = t.records.sumMismatch ∧
        (m.anyLimit = true ↔ (∃ c ∈ cells, c.limit ≠ .noFlag) ∨ ∃ x ∈ sensors, x.overTemp = true) ∧
        m.thermalNodes.Sublist ((s.ring.directory.filter fun e => e.kind.isCsn).map fun e => e.address) ∧
        ∀ n, n ∈ m.thermalNodes ↔ ∃ p ∈ spans s.ring.directory, p.node.address = n ∧
          ∃ x ∈ slice t.records.sensors p.firstSensor p.sensors,
            x.populated = true ∧ x.masked = false ∧ x.thermalEvent = true) ∧
      (let checked := sumCheck (ageRecords dormant { s with ring.attempt := none })
        let published := { checked with records.image := t.records.image }
        let handed :=
          balancePublication (watchPublication (zonePublication (coolingPublication (fullComputation published))))
        (s.stateUnit.state ≠ .dormant → handed.ring.startPending = false ∧ t.stateUnit.state = s.stateUnit.state) ∧
        (handed.ring.startPending = false →
          t = { handed with ring.cycle := none } ∧ t.ring.cycle = none ∧ t.ring.attempt = none) ∧
        (handed.ring.startPending = true →
          t = startCycle { handed with ring.startPending := false, ring.cycle := none } ∧
          t.stateUnit.state = .run)) ∧
      t.ring.state = s.ring.state

/-- R7, R8, R16, R17, R27 and R180, with no thermal event and no chiller fault to cancel the sleep at that publication.
The RING_SEVERED trip stays the last one where no cell becomes LOST at that cycle end (log 35 for its rows). The
OP_STATE record without a port is the model's choice (log 41), and the place of a window without a node log 9's. -/
def Obligations.CycleEndBranches : Prop :=
  (∀ (s : State) (slots : List Slot) (visited : List Nat) (old : Bool),
    s.ring.cycle = some ⟨slots, visited, old⟩ → CycleOver s slots visited → s.ring.state ≠ .enumerating →
    s.connection.state = .opened ∨ s.connection.state = .lockout → s.stateUnit.wakePending = false →
    (s.stateUnit.sleepPending = true → s.stateUnit.state = .run) →
    (∀ x ∈ s.records.sensors, x.thermalEvent = false) → (∀ z, (s.zone z).thermal = false) →
    s.live .chillerFault = false → (s.cooling.health = .normal → s.cooling.anyCondition = false) →
    JournalConsecutive s →
    let becomesLost (c : Cell) : Prop :=
      let age := if c.sampled then c.age else min 255 (c.age + 1)
      c.populated = true ∧ c.masked = false ∧ (c.condition = .fresh ∨ c.condition = .stale) ∧
        (if old then s.settings.cell.dormantStale else s.settings.cell.staleLimit) ≤ age ∧
        (if old then s.settings.cell.dormantLost else s.settings.cell.lostLimit) ≤ age
    let change (x y : RingState) : List Entry :=
      if x = y then [] else [{ kind := .ringState, cause := .ring y }]
    let ends (ringChanges : List Entry) (decided : RingState) (t : State) : Prop :=
      t.records.image.cycle = s.records.image.cycle + 1 ∧ t.records.image.ringState = decided ∧
      t.ring.state = (if s.ring.enumeratePending then .enumerating else decided) ∧
      t.ring.enumeratePending = false ∧ t.ring.startPending = false ∧ t.ring.overruns = s.ring.overruns ∧
      t.ring.countdown = (if s.stateUnit.sleepPending then 1000 * s.settings.ring.patrolPeriod else s.ring.countdown) ∧
      t.stateUnit =
        (if s.stateUnit.sleepPending then { s.stateUnit with state := .dormant, sleepPending := false }
        else s.stateUnit) ∧
      Appended
        (ringChanges ++ (if s.stateUnit.sleepPending then [{ kind := .opState, cause := .opState .dormant }] else [])
          ++ (if s.ring.enumeratePending then [{ kind := .ringState, cause := .ring .enumerating }] else [])) s t ∧
      (t.ring.state ≠ s.ring.state → PendingEverywhere .ring t) ∧
      (s.stateUnit.sleepPending = true → ∀ e ∈ t.balance, e = ⟨.idle, 0⟩) ∧
      (decided = .severed → s.ring.state ≠ .severed → (∀ c ∈ s.records.cells, ¬ becomesLost c) →
        t.connection.lastTrip = some ⟨.ringSevered, .hard, none, none, none, s.lines.timeBase⟩) ∧
      (s.ring.startPending = false → t.ring.cycle = none ∧ t.ring.attempt = none) ∧
      (s.ring.startPending = true → s.ring.enumeratePending = true → t.ring.cycle = none ∧
        t.ring.attempt = some ⟨.enumerate, ⟨0x02, 0xFF, [0x00]⟩, .out, .ret, true, none, none, none⟩) ∧
      (s.ring.startPending = true → s.ring.enumeratePending = false →
        let d := decide (t.stateUnit.state = .dormant)
        t.ring.cycle = some ⟨cycleSlots d t, [], d⟩ ∧ t.ring.tokenLost = false ∧ t.ring.nodeAnswered = false ∧
        t.ring.attempt = some ⟨.token, ⟨0x01, 0xFF, []⟩, .out, .ret, true, none, none, none⟩)
    let branch (lost answered : Bool) (otherwise : RingState) : RingState :=
      if lost then (if answered then .split else .severed) else otherwise
    let now := branch s.ring.tokenLost s.ring.nodeAnswered s.ring.state
    ends (change s.ring.state now) now (nextSlot s) ∧
    ∀ (a : Attempt) (tokenLost : Bool),
      s.ring.attempt = some a → a.job = .token → a.rx = none → a.listensAt = .ret → a.timeout ≠ none →
      (a.retryLeft && s.settings.ring.retry) = false → a.fallback = none → s.ring.tokenLost = false →
      let event := if tokenLost then Instr.ringAnswerTimeout .ret []
        else .ringFrameReceived .ret (RingFrame.mk 0x01 0xFF []).bytes
      let atToken : RingState :=
        if tokenLost then (if s.ring.state = .closed then .split else s.ring.state) else .closed
      let decided := branch tokenLost s.ring.nodeAnswered .closed
      ∃ t, exec event s = .next t ∧ ends (change s.ring.state atToken ++ change atToken decided) decided t) ∧
  ∀ (s : State) (new : RingState),
    let t := setRingState new s
    let u := raise .ring (append { kind := .ringState, cause := .ring new } { s with ring.state := new })
    (new = s.ring.state → t = s) ∧
    (new ≠ s.ring.state → new ≠ .severed → t = capInputChanged u) ∧
    (new ≠ s.ring.state → new = .severed → t = takeTrip { cause := .ringSevered } (capInputChanged u))

/-- R17, R18, R19 and R23, in every ring state, for a directory in address order. `order` places the addresses on a walk
from a given one, wrapping. -/
def Obligations.RotationSlot : Prop :=
  (∀ (s : State) (slot : Slot) (rest : List Slot) (visited : List Nat) (dormant : Bool),
    s.ring.cycle = some ⟨slot :: rest, visited, dormant⟩ →
    let t := nextSlot s
    let begun (job : Job) (after : List Nat) (pointer : Option Nat) : State :=
      { s with ring :=
          { s.ring with
            attempt := some (firstAttempt s job), cycle := some ⟨rest, after, dormant⟩, rotation := pointer } }
    (∀ n, slot = .scan n → t = begun (.scan n) visited s.ring.rotation) ∧
    (∀ n, slot = .detect n → t = begun (.detect n) visited s.ring.rotation) ∧
    (∀ n, slot = .rotation → rotationPick s.ring visited = some n →
      t = begun (.scan n) (visited ++ [n]) (nextCsn s.ring.csns n)) ∧
    (slot = .rotation → rotationPick s.ring visited = none →
      t = nextSlot { s with ring.cycle := some ⟨rest, visited, dormant⟩ }) ∧
    ∀ a, s.ring.attempt = some a → a.job = .token → a.rx = none → a.listensAt = .ret → s.ring.state = .closed →
      exec (.ringFrameReceived .ret (RingFrame.mk 0x01 0xFF []).bytes) s = .next t) ∧
  ∀ (s : State) (visited : List Nat),
    (s.ring.directory.map (·.address)).Pairwise (· < ·) → (∀ e ∈ s.ring.directory, e.address < 24) →
    let order (start x : Nat) : Nat := if start ≤ x then x else x + 24
    let free (x : Nat) : Prop :=
      IsCsn s x ∧ s.ring.windowA.current ≠ some x ∧ s.ring.windowB.current ≠ some x ∧ x ∉ visited
    (s.ring.rotation = none → rotationPick s.ring visited = none) ∧
    (∀ p, s.ring.rotation = some p → p < 24 →
      ((∀ x, ¬ free x) → rotationPick s.ring visited = none) ∧
      ∀ x, free x → (∀ y, free y → order p x ≤ order p y) → rotationPick s.ring visited = some x) ∧
    ∀ x n, IsCsn s n → (∀ y, IsCsn s y → order (x + 1) n ≤ order (x + 1) y) → nextCsn s.ring.csns x = some n

/-- R48, R49, R58 and R181, for both targets and both actions. That the number of changed records goes with OK alone,
every other answer being empty (log 15), and that an unmask of a record that was not masked leads to nothing (log 42),
are the model's choices. -/
def Obligations.MaskRequest : Prop :=
  ∀ (s : State) (target count action : Byte) (first : Word16), action ≠ 0x02 →
    let a := first.toNat
    let n := count.toNat
    let named (k : Nat) : Prop := a ≤ k ∧ k < a + n
    let busy : Prop := s.stateUnit.state ≠ .setup ∧ s.connection.state ≠ .opened ∧ s.connection.state ≠ .lockout
    let fits : Prop :=
      1 ≤ n ∧ n ≤ 16 ∧
        ((target = 0x01 ∧ a + n ≤ 320 ∧
            ∀ k, named k → ∃ c, s.records.cells[k]? = some c ∧ c.populated = true) ∨
          (target = 0x02 ∧ a + n ≤ 80 ∧
            ∀ k, named k → ∃ c, s.records.sensors[k]? = some c ∧ c.populated = true))
    let changed (on : Bool) : Nat :=
      (List.range' a n).countP fun k =>
        if target = 0x01 then (s.records.cells[k]?).any fun c => c.masked != on
        else (s.records.sensors[k]?).any fun c => c.masked != on
    let maskedAs (on : Bool) (t : State) : Prop :=
      (∀ k, t.records.cells[k]? = if target = 0x01 ∧ named k then
        (s.records.cells[k]?).map (fun c => { c with masked := on }) else s.records.cells[k]?) ∧
      (∀ k, t.records.sensors[k]? = if target = 0x02 ∧ named k then
        (s.records.sensors[k]?).map (fun c => { c with masked := on }) else s.records.sensors[k]?)
    let woken (t : State) : Prop :=
      (s.stateUnit.state = .run → t.stateUnit.sleepPending = false) ∧
      (s.stateUnit.state = .dormant → t.stateUnit.wakePending = true ∨ t.stateUnit.state = .run)
    let limited : Prop :=
      (target = 0x01 ∧ ∃ k c, named k ∧ s.records.cells[k]? = some c ∧ c.masked = true ∧ c.limit ≠ .noFlag) ∨
        (target = 0x02 ∧ ∃ k x, named k ∧ s.records.sensors[k]? = some x ∧ x.masked = true ∧ x.overTemp = true)
    let lost : Prop :=
      target = 0x01 ∧ ∃ k c, named k ∧ s.records.cells[k]? = some c ∧ c.masked = true ∧ c.condition = .lost
    (HandedOver .site (.mask .site target first count action) s →
      ∃ t, exec (.mask .site target first count action) s = .next t ∧
      (busy → AnsweredOnly .site 0x27 .wrongState [] s t) ∧
      (¬ busy → ¬ (action = 0x01 ∧ fits) → AnsweredOnly .site 0x27 .outOfRange [] s t) ∧
      (¬ busy → action = 0x01 → fits →
        AnswerAt .site 0x27 .ok [byteOf (changed true)] s t ∧ PortsAnswered .site s t ∧ JournalKept s t ∧
        maskedAs true t ∧
        (∀ k, t.balance[k]? = if target = 0x01 ∧ named k ∧ ∃ c, s.records.cells[k]? = some c ∧ c.masked = false then
          (s.balance[k]?).map (fun e => if e.state = .idle then e else ⟨.idle, 0⟩) else s.balance[k]?) ∧
        t = { s with
              records.cells := t.records.cells, records.sensors := t.records.sensors, balance := t.balance
              portUnit := t.portUnit })) ∧
    (HandedOver .site (.unmask .site target first count) s →
      ∃ t, exec (.unmask .site target first count) s = .next t ∧
      (busy → AnsweredOnly .site 0x27 .wrongState [] s t) ∧
      (¬ busy → ¬ fits → AnsweredOnly .site 0x27 .outOfRange [] s t) ∧
      (¬ busy → fits →
        AnswerAt .site 0x27 .ok [byteOf (changed false)] s t ∧ PortsAnswered .site s t ∧ maskedAs false t ∧
        (changed false = 0 → AnsweredOnly .site 0x27 .ok [0x00] s t) ∧
        (∀ k c, target = 0x01 → named k → s.records.cells[k]? = some c → c.masked = true →
          c.limit ≠ .noFlag ∨ c.condition = .lost → PendingEverywhere .cell t) ∧
        (∀ k c, target = 0x01 → named k → s.records.cells[k]? = some c → c.masked = true → c.limit ≠ .noFlag →
          woken t) ∧
        (∀ k x, target = 0x02 → named k → s.records.sensors[k]? = some x → x.masked = true → x.overTemp = true →
          PendingEverywhere .cell t ∧ woken t) ∧
        (¬ limited → t.ring = s.ring ∧ t.stateUnit = s.stateUnit ∧ t.envelope = s.envelope ∧ JournalKept s t) ∧
        (¬ limited → ¬ lost →
          OnlyAnswered .site { s with records.cells := t.records.cells, records.sensors := t.records.sensors } t) ∧
        t = { s with
              records.cells := t.records.cells, records.sensors := t.records.sensors, ring := t.ring
              stateUnit := t.stateUnit, envelope := t.envelope, portUnit := t.portUnit }))

/-- R52 to R54, R56 and R174. `judged` is one pair by the first case that applies. The order of OK's fields and the
empty payloads of the other answers are the model's choice (log 15). -/
def Obligations.BalanceRequest : Prop :=
  (∀ (s : State) (pairs : List (Word16 × Word16)), pairs.length ≤ 15 → HandedOver .site (.balance .site pairs) s →
    let judged (u : State) (cell minutes : Nat) : State × Bool :=
      let e := u.entry cell
      let grant (b : BalanceEntry) : State × Bool := ({ u with balance := u.balance.set cell b }, true)
      let populatedUnmasked := (u.records.cells[cell]?).any fun c => c.populated && !c.masked
      let fresh := (u.records.image.cells[cell]?).any fun c => c.condition == .fresh
      let aboveFloor :=
        ((u.records.cells[cell]?).bind (·.filtered)).any fun v => u.settings.balance.bleedFloor < v
      let full : Bool := match cellSpan u.ring.directory cell with
        | some p =>
          decide (u.settings.balance.nodeCap ≤ (slice u.balance p.firstCell p.cells).countP fun b => b.state != .idle)
        | none => true
      if 319 < cell then (u, false)
      else if minutes = 0 then grant ⟨.idle, 0⟩
      else if ¬ populatedUnmasked ∨ ¬ fresh ∨ ¬ aboveFloor then (u, false)
      else if e.state ≠ .idle then grant ⟨e.state, min 255 minutes⟩
      else if full then (u, false)
      else grant ⟨if suspended u cell then .suspended else .active, min 255 minutes⟩
    ∃ t, exec (.balance .site pairs) s = .next t ∧
      (s.stateUnit.state ≠ .run → AnsweredOnly .site 0x29 .wrongState [] s t) ∧
      (s.stateUnit.state = .run → pairs.length = 0 ∨ 8 < pairs.length →
        AnsweredOnly .site 0x29 .outOfRange [] s t) ∧
      (s.stateUnit.state = .run → 1 ≤ pairs.length → pairs.length ≤ 8 →
        t.balance = (pairs.foldl (fun u q => (judged u q.1.toNat q.2.toNat).1) s).balance ∧
        t = { s with balance := t.balance, portUnit := t.portUnit } ∧ PortsAnswered .site s t ∧ JournalKept s t ∧
        (∃ payload, AnswerAt .site 0x29 .ok payload s t ∧ payload.length = 2 + 2 * pairs.length) ∧
        (∀ c m, pairs = [(c, m)] → AnswerAt .site 0x29 .ok
          [if (judged s c.toNat m.toNat).2 then 1 else 0, if (judged s c.toNat m.toNat).2 then 0 else 1,
            byteOf (t.entry c.toNat).state.code, byteOf (t.entry c.toNat).minutes] s t))) ∧
  (∀ s : State, exec .minuteTick s = .next
    { s with
      lines.minute := 60000
      balance := s.balance.map fun e =>
        if e.state = .active then (if e.minutes ≤ 1 then ⟨.idle, 0⟩ else ⟨.active, e.minutes - 1⟩) else e })

/-- R55, R57 and R60. -/
def Obligations.BalancePublication : Prop :=
  ∀ s : State,
    let holds (cell : Nat) : Prop :=
      (∃ c, s.records.image.cells[cell]? = some c ∧ c.condition ≠ .fresh) ∨ s.records.image.cells[cell]? = none ∨
      match cellSpan s.ring.directory cell with
      | none => True
      | some p =>
        (∃ z, p.node.zone = some z ∧ (s.zone z).state ≠ .normal) ∨
        ∃ x ∈ slice s.records.image.sensors p.firstSensor p.sensors, x.populated = true ∧ x.masked = false ∧
          (x.condition = .fresh ∨ x.condition = .stale) ∧
          ∃ r, x.reading = some r ∧ s.settings.balance.bleedTemperature ≤ r
    let t := balancePublication s
    t = { s with balance := t.balance } ∧ t.balance.length = s.balance.length ∧
    (∀ (cell : Nat) (e : BalanceEntry), s.balance[cell]? = some e →
      (e.state = .idle → (∀ v, (s.records.image.cells[cell]?).bind (·.filtered) = some v →
          s.settings.balance.bleedFloor < v) → t.balance[cell]? = some e) ∧
      ((∃ v, (s.records.image.cells[cell]?).bind (·.filtered) = some v ∧ v ≤ s.settings.balance.bleedFloor) →
        t.balance[cell]? = some ⟨.idle, 0⟩) ∧
      (e.state ≠ .idle → (∀ v, (s.records.image.cells[cell]?).bind (·.filtered) = some v →
          s.settings.balance.bleedFloor < v) →
        (holds cell → t.balance[cell]? = some ⟨.suspended, e.minutes⟩) ∧
        (¬ holds cell → t.balance[cell]? = some ⟨.active, e.minutes⟩))) ∧
    ∀ (address : Nat) (p : Span), nodeSpan s.ring.directory address = some p → p.cells ≤ 16 →
      ∀ k, (bleedMask s address).getLsbD k = true ↔
        k < p.cells ∧ ∃ e, s.balance[p.firstCell + k]? = some e ∧ e.state = .active

/-- R74 and R75, with the zeroing of R76 that is applied after them. -/
def Obligations.StoredLimits : Prop :=
  ∀ s : State,
    let step := max 1 (s.settings.envelope.rampRate * s.settings.ring.period / 1000)
    let full := (fullComputation s).envelope
    let less := (capInputChanged s).envelope
    let follows (zeroed : Prop) (old new less : EnvelopeSide) : Prop :=
      (zeroed → new.stored = 0 ∧ less.stored = 0) ∧
      (¬ zeroed → new.target ≤ old.stored → new.stored = new.target) ∧
      (¬ zeroed → old.stored < new.target → new.stored = min new.target (old.stored + step)) ∧
      (¬ zeroed → less.stored = min old.stored less.target) ∧
      new.stored ≤ new.target ∧ less.stored ≤ less.target
    follows (ZeroingHolds s) s.envelope.charge full.charge less.charge ∧
    follows (ZeroingHolds s) s.envelope.discharge full.discharge less.discharge ∧
    (s.settings.envelope.rampRate = 500 → s.settings.ring.period = 200 → step = 100)

/-- R66 to R73 and R76 to R79, for every state and both kinds of computation. -/
def Obligations.EnvelopeComputation : Prop :=
  (∀ (full : Bool) (s : State),
    let t := compute full s
    let old := s.envelope
    let new := t.envelope
    let c := s.settings.envelope
    t = { s with envelope := new, portUnit := t.portUnit } ∧ JournalKept s t ∧ PortsNotified s t ∧
    new.full = full ∧ new.cycle = s.records.image.cycle ∧ new.stamp = s.lines.timeBase ∧
    new.charge.target
      = c.ratedCharge * min new.charge.voltageFactor (min new.charge.temperatureFactor new.charge.cap) / 1024 ∧
    new.discharge.target = c.ratedDischarge
      * min new.discharge.voltageFactor (min new.discharge.temperatureFactor new.discharge.cap) / 1024 ∧
    new.charge.target ≤ c.ratedCharge ∧ new.discharge.target ≤ c.ratedDischarge ∧
    (ZeroingHolds s → new.zeroed = true ∧ new.charge.effective = 0 ∧ new.discharge.effective = 0 ∧
      new.charge.reason = .zeroed ∧ new.discharge.reason = .zeroed) ∧
    (¬ ZeroingHolds s → new.zeroed = false ∧ new.discharge.effective = new.discharge.stored ∧
      new.charge.effective = new.charge.stored) ∧
    ((∃ z, (s.zone z).state = .preAlarm ∨ (s.zone z).blind = true) →
      new.charge.cap = 0 ∧ new.charge.target = 0 ∧ new.charge.effective = 0) ∧
    (new.generation = if new.charge.effective = old.charge.effective ∧ new.discharge.effective = old.discharge.effective
      then old.generation else old.generation + 1)) ∧
  (∀ (full : Bool) (s : State),
    let new := (compute full s).envelope
    let c := s.settings.envelope
    let image := s.records.image
    let cell (worse : Nat → Nat → Nat) (v : Nat) : Prop := ∃ x ∈ image.cells, GivesVoltage worse x v
    let sensor (v : Int) : Prop := ∃ x ∈ image.sensors, x.populated = true ∧ x.masked = false ∧
      (x.condition = .fresh ∨ x.condition = .stale) ∧ x.reading = some v
    let looked (f : DeratingPoint → Nat) (t : Int) (x : Nat) : Prop :=
      (∃ p, c.derating.getLast? = some p ∧ x = f p ∧ ∀ q ∈ c.derating, q.temperature < t) ∨
      ∃ k b, c.derating[k]? = some b ∧ t ≤ b.temperature ∧
        (∀ (j : Nat) (q : DeratingPoint), j < k → c.derating[j]? = some q → q.temperature < t) ∧
        (k = 0 → x = f b) ∧
        ∀ a, 0 < k → c.derating[k - 1]? = some a →
          (b.temperature ≤ a.temperature → x = f b) ∧
          (a.temperature < b.temperature →
            (x : Int) = (f a * (b.temperature - t) + f b * (t - a.temperature)) / (b.temperature - a.temperature))
    let smallest (l : List (Bool × Nat)) (x : Nat) : Prop :=
      (∀ e ∈ l, e.1 = true → x ≤ e.2) ∧ x ≤ 1024 ∧ (x = 1024 ∨ ∃ e ∈ l, e.1 = true ∧ x = e.2)
    let named (side : EnvelopeSide) (zoneCap : Nat) : Prop :=
      ¬ ZeroingHolds s →
      side.reason =
        if side.stored < side.target then .ramp
        else if side.voltageFactor ≤ side.temperatureFactor ∧ side.voltageFactor ≤ side.cap then .voltage
        else if side.temperatureFactor ≤ side.cap then .temperature
        else if new.caps.zone = true ∧ zoneCap = side.cap then .capZone
        else if new.caps.stale = true ∧ c.staleCap = side.cap then .capStale
        else if new.caps.disagree = true ∧ c.disagreeCap = side.cap then .capDisagree
        else .capCooling
    (∀ v, new.vmax = some v ↔ cell max v ∧ ∀ w, cell max w → w ≤ v) ∧
    (∀ v, new.vmin = some v ↔ cell min v ∧ ∀ w, cell min w → v ≤ w) ∧
    (∀ v, new.tmax = some v ↔ sensor v ∧ ∀ w, sensor w → w ≤ v) ∧
    (∀ v, new.tmin = some v ↔ sensor v ∧ ∀ w, sensor w → v ≤ w) ∧
    (new.charge.voltageFactor =
      match new.vmax with
      | none => 0
      | some v =>
        if c.vceil ≤ v then 0 else if v ≤ c.vtaper then 1024 else 1024 * (c.vceil - v) / (c.vceil - c.vtaper)) ∧
    (new.discharge.voltageFactor =
      match new.vmin with
      | none => 0
      | some v =>
        if v ≤ c.vfloor then 0 else if c.vknee ≤ v then 1024 else 1024 * (v - c.vfloor) / (c.vknee - c.vfloor)) ∧
    (c.derating ≠ [] → ∀ lo hi, new.tmin = some lo → new.tmax = some hi →
      (∃ x y, looked (·.charge) lo x ∧ looked (·.charge) hi y ∧ new.charge.temperatureFactor = min x y) ∧
      ∃ x y, looked (·.discharge) lo x ∧ looked (·.discharge) hi y ∧ new.discharge.temperatureFactor = min x y) ∧
    (new.tmax = none → new.charge.temperatureFactor = 0 ∧ ∀ p ∈ c.derating,
      new.discharge.temperatureFactor ≤ p.discharge ∧ ∃ q ∈ c.derating, new.discharge.temperatureFactor = q.discharge) ∧
    new.caps.stale = image.summary.anyStale ∧ (new.caps.cooling = true ↔ s.cooling.health = .degraded) ∧
    new.caps.disagree = (image.summary.anyDisagree || image.summary.sumMismatch) ∧
    (new.caps.zone = true ↔ ∃ z, (s.zone z).state = .preAlarm ∨ (s.zone z).blind = true) ∧
    smallest [(new.caps.stale, c.staleCap), (new.caps.cooling, c.coolingCap), (new.caps.disagree, c.disagreeCap),
      (new.caps.zone, 0)] new.charge.cap ∧
    smallest [(new.caps.stale, c.staleCap), (new.caps.cooling, c.coolingCap), (new.caps.disagree, c.disagreeCap),
      (new.caps.zone, c.preAlarmCap)] new.discharge.cap ∧
    named new.charge 0 ∧ named new.discharge c.preAlarmCap)

/-- R80, for every state and both kinds of computation. -/
def Obligations.EnvelopeNotice : Prop :=
  ∀ (full : Bool) (s : State),
    let t := compute full s
    let falls (rated before after : Nat) : Prop :=
      (0 < before ∧ after = 0) ∨ (after < before ∧ rated < 8 * (before - after))
    let meets : Prop :=
      falls s.settings.envelope.ratedCharge s.envelope.charge.effective t.envelope.charge.effective ∨
      falls s.settings.envelope.ratedDischarge s.envelope.discharge.effective t.envelope.discharge.effective
    (∀ (p : PortId) (n : Notice), n.inSet (t.port p).pendingSet = true ↔
      n.inSet (s.port p).pendingSet = true ∨ (n = .envelope ∧ meets)) ∧
    (s.envelope.charge.effective ≤ t.envelope.charge.effective →
      s.envelope.discharge.effective ≤ t.envelope.discharge.effective → ¬ meets) ∧
    (s.settings.envelope.ratedCharge = 2800 → ∀ a b, 0 < b →
      (falls s.settings.envelope.ratedCharge a b ↔ b + 350 < a)) ∧
    (s.settings.envelope.ratedDischarge = 3200 → ∀ a b, 0 < b →
      (falls s.settings.envelope.ratedDischarge a b ↔ b + 400 < a))

/-- R84 to R87, R99, R100, R104, R170 and R171, by the connection state. -/
def Obligations.LineSampleTaken : Prop :=
  ∀ (s : State) (m : LineMeasurement),
    let held (lo hi v : Int) : Int := max lo (min hi v)
    let sample : LineSample :=
      ⟨held (-20000) 20000 m.current, (held 0 15000 m.stringVoltage).toNat, (held 0 15000 m.linkVoltage).toNat,
        decide (m.current < -20000 ∨ 20000 < m.current)⟩
    let c := s.settings.envelope
    let followed (e limit : Nat) : Nat :=
      if limit ≤ e then e else max e (limit - max 1 (c.stepDownRate / 100))
    let mc := followed s.envelope.charge.effective s.monitor.chargeLimit
    let md := followed s.envelope.discharge.effective s.monitor.dischargeLimit
    let allowance (limit : Nat) : Int := limit + max (limit * c.tolerance / 100) 50
    let chargeSum := max 0 (s.monitor.chargeSum + (-sample.current - allowance mc))
    let dischargeSum := max 0 (s.monitor.dischargeSum + (sample.current - allowance md))
    let quiet (state : ConnState) : Prop :=
      (state = .shedding → s.connection.opening ≠ none → s.settings.connection.breakCurrent < sample.current.natAbs) ∧
      (state = .precharging → s.connection.negConfirmed = some true →
        s.settings.connection.prechargeTolerance < ((sample.stringVoltage : Int) - sample.linkVoltage).natAbs)
    ∃ t, exec (.lineSample m) s = .next t ∧ t.lines.sample = sample ∧
      (s.monitor.monitoring = false → quiet s.connection.state → t = { s with lines.sample := sample }) ∧
      (s.monitor.monitoring = true → s.connection.state = .closed → chargeSum < 1000 * c.excessBudget →
        dischargeSum < 1000 * c.excessBudget → 1000 * c.excessBudget ≤ 1000000 →
        t = { s with
              lines.sample := sample
              monitor :=
                { s.monitor with
                  chargeLimit := mc, dischargeLimit := md, chargeSum := chargeSum.toNat
                  dischargeSum := dischargeSum.toNat } }) ∧
      (s.monitor.monitoring = true → s.connection.state = .closed → chargeSum < 1000 * c.excessBudget →
        1000 * c.excessBudget ≤ dischargeSum → 0 < c.excessBudget →
        t.monitor.overcurrent = some
          ⟨.discharge, dischargeSum, s.envelope.discharge.effective, md, sample.current, s.lines.timeBase⟩ ∧
        t.monitor.dischargeSum = 0 ∧ t.connection.state ≠ .closed ∧ PendingEverywhere .trip t ∧
        t.connection.lastTrip = some ⟨.overcurrent, .hard, none, none, none, s.lines.timeBase⟩ ∧
        t.lines.outputs.gridPermissive = false) ∧
      (s.monitor.monitoring = true → s.connection.state = .closed → dischargeSum < 1000 * c.excessBudget →
        1000 * c.excessBudget ≤ chargeSum → 0 < c.excessBudget →
        t.monitor.overcurrent = some
          ⟨.charge, chargeSum, s.envelope.charge.effective, mc, sample.current, s.lines.timeBase⟩ ∧
        t.monitor.chargeSum = 0 ∧ t.connection.state ≠ .closed ∧ PendingEverywhere .trip t ∧
        t.connection.lastTrip = some ⟨.overcurrent, .hard, none, none, none, s.lines.timeBase⟩ ∧
        t.lines.outputs.gridPermissive = false) ∧
      (∀ o, s.monitor.monitoring = false → s.connection.state = .shedding → s.connection.opening = some o →
        sample.current.natAbs ≤ s.settings.connection.breakCurrent →
        t.connection.shed = none ∧ t.connection.opening = some o ∧ t.lines.outputs.negMain = false ∧
        t.lines.outputs.posMain = false ∧ t.lines.outputs.gridPermissive = false ∧
        (s.live .negAux = true ∨ s.live .posAux = true → t.connection.state = .opening ∧
          t.connection.confirm = some s.settings.connection.confirmTime)) ∧
      (s.monitor.monitoring = false → s.connection.state = .precharging → s.connection.negConfirmed = some true →
        ((sample.stringVoltage : Int) - sample.linkVoltage).natAbs ≤ s.settings.connection.prechargeTolerance →
        (s.live .posAux = false → t.connection =
            { s.connection with
              state := .closing, negConfirmed := none, precharge := none
              confirm := some s.settings.connection.confirmTime } ∧
          t.lines.outputs = { s.lines.outputs with
              negMain := true, precharge := true, posMain := true, gridPermissive := false }) ∧
        (s.live .posAux = true → t.connection =
            { s.connection with state := .closed, negConfirmed := none, precharge := none, confirm := none } ∧
          t.monitor.monitoring = true ∧ t.lines.outputs.gridPermissive = true))

/-- R95, the gates of R96 in their order with the reason codes of R188, and R97 to R101 at entry to PRECHARGING. The
clear flag of ALREADY in CLOSED and the empty payload of WRONG_STATE (log 15), the failure with both contacts closed
(log 18) and the answer that names PRECHARGING whatever follows at once (log 19) are the model's choices. -/
def Obligations.CloseRequest : Prop :=
  (∀ (s : State) (marker : Byte), HandedOver .converter (.close .converter marker) s →
    let gates : List Prop :=
      [ s.stateUnit.state ≠ .run ∨ s.stateUnit.sleepPending = true,
        s.connection.permit.energy = .withdrawn,
        s.connection.permit.grid ≠ .valid,
        s.live .feederClosed = false,
        s.live .estop = true,
        s.live .door = true,
        ∃ z, (s.zone z).state ≠ .normal,
        CellLost s,
        (∃ c ∈ s.records.cells, c.populated = true ∧ c.masked = false ∧ c.limit ≠ .noFlag) ∨
          ∃ x ∈ s.records.sensors, x.populated = true ∧ x.masked = false ∧ x.overTemp = true,
        s.ring.state ≠ .closed ∧ s.ring.state ≠ .split,
        s.envelope.charge.target = 0 ∧ s.envelope.discharge.target = 0 ]
    ∃ t, exec (.close .converter marker) s = .next t ∧
      (s.connection.state = .precharging ∨ s.connection.state = .closing →
        AnsweredOnly .converter 0x40 .already [0x01] s t) ∧
      (s.connection.state = .closed → AnsweredOnly .converter 0x40 .already [0x00] s t) ∧
      (s.connection.state = .shedding ∨ s.connection.state = .opening →
        AnsweredOnly .converter 0x40 .wrongState [] s t) ∧
      (s.connection.state = .lockout → AnsweredOnly .converter 0x40 .refused [0x10] s t) ∧
      (s.connection.state = .opened → ∀ (k : Nat) (gate : Prop), gates[k]? = some gate → gate →
        (∀ (j : Nat) (earlier : Prop), j < k → gates[j]? = some earlier → ¬ earlier) →
        AnsweredOnly .converter 0x40 .refused [byteOf (k + 1)] s t)) ∧
  (∀ (s : State) (marker : Byte), HandedOver .converter (.close .converter marker) s →
    let gates : List Prop :=
      [ s.stateUnit.state ≠ .run ∨ s.stateUnit.sleepPending = true,
        s.connection.permit.energy = .withdrawn,
        s.connection.permit.grid ≠ .valid,
        s.live .feederClosed = false,
        s.live .estop = true,
        s.live .door = true,
        ∃ z, (s.zone z).state ≠ .normal,
        CellLost s,
        (∃ c ∈ s.records.cells, c.populated = true ∧ c.masked = false ∧ c.limit ≠ .noFlag) ∨
          ∃ x ∈ s.records.sensors, x.populated = true ∧ x.masked = false ∧ x.overTemp = true,
        s.ring.state ≠ .closed ∧ s.ring.state ≠ .split,
        s.envelope.charge.target = 0 ∧ s.envelope.discharge.target = 0 ]
    s.connection.state = .opened → (∀ gate ∈ gates, ¬ gate) →
    let started : Connection :=
      { s.connection with
        state := .precharging, context := some ⟨marker, .converter⟩, negConfirmed := some false
        precharge := some (1000 * s.settings.connection.prechargeTime)
        confirm := some s.settings.connection.confirmTime }
    let difference := ((s.lines.sample.stringVoltage : Int) - s.lines.sample.linkVoltage).natAbs
    ∃ t, exec (.close .converter marker) s = .next t ∧ AnswerAt .converter 0x40 .ok [0x02] s t ∧
      PortsAnswered .converter s t ∧ PendingEverywhere .connection t ∧
      t = { s with
            connection := t.connection, lines.outputs := t.lines.outputs, envelope := t.envelope
            portUnit := t.portUnit } ∧
      (s.live .posAux = false → s.live .negAux = false → t.connection = started ∧ JournalKept s t ∧
        t.lines.outputs =
          { s.lines.outputs with negMain := true, precharge := true, posMain := false, gridPermissive := false }) ∧
      (s.live .posAux = false → s.live .negAux = true →
        s.settings.connection.prechargeTolerance < difference →
        t.connection = { started with negConfirmed := some true, confirm := none } ∧ JournalKept s t) ∧
      (s.live .posAux = false → s.live .negAux = true →
        difference ≤ s.settings.connection.prechargeTolerance → JournalKept s t ∧
        t.connection =
          { started with
            state := .closing, negConfirmed := none, precharge := none
            confirm := some s.settings.connection.confirmTime } ∧
        t.lines.outputs =
          { s.lines.outputs with negMain := true, precharge := true, posMain := true, gridPermissive := false }) ∧
      (s.live .posAux = true →
        t.connection =
          { started with
            state := .opening, negConfirmed := none, precharge := none, shed := none
            opening := some
              ⟨.failure, .failed .contactorPos, some ⟨.converter, some marker⟩, none, none, false⟩ } ∧
        Appended [{ kind := .closeFailed, cause := .failed .contactorPos, origin := some ⟨.converter, some marker⟩ }] s t))

/-- R101, R103, R104 and R109, with the trip acting as R107 gives. The zone and location that an upgrade leaves in the
record (log 14), and the empty payload of REMOTE_TRIP's ALREADY (log 15) are the model's choices. -/
def Obligations.OpenAndRemoteTrip : Prop :=
  (∀ (s : State) (marker : Byte),
    HandedOver .converter (.openRequest .converter marker) s →
    let record : Opening := ⟨.request, .openRequest, some ⟨.converter, some marker⟩, none, none, false⟩
    let opening : Connection :=
      { s.connection with
        state := .opening, opening := some record, negConfirmed := none, precharge := none, shed := none
        confirm := some s.settings.connection.confirmTime }
    let auxClosed := s.live .negAux = true ∨ s.live .posAux = true
    let failed : Entry :=
      { kind := .closeFailed, cause := .openRequest
        origin := s.connection.context.map fun c => ⟨c.port, some c.marker⟩ }
    ∃ t, exec (.openRequest .converter marker) s = .next t ∧
      (s.connection.state = .opened → AnsweredOnly .converter 0x41 .already [0x01] s t) ∧
      (s.connection.state = .shedding → AnsweredOnly .converter 0x41 .ok [0x05] s t) ∧
      (s.connection.state = .opening → AnsweredOnly .converter 0x41 .ok [0x06] s t) ∧
      (s.connection.state = .lockout → AnsweredOnly .converter 0x41 .refused [0x10, 0x07] s t) ∧
      t = { s with
            connection := t.connection, lines.outputs := t.lines.outputs, envelope := t.envelope
            monitor := t.monitor, portUnit := t.portUnit } ∧ PortsAnswered .converter s t ∧
      (s.connection.state = .precharging ∨ s.connection.state = .closing → auxClosed →
        t.connection = opening ∧ Appended [failed] s t ∧ AnswerAt .converter 0x41 .ok [0x06] s t) ∧
      (s.connection.state = .precharging ∨ s.connection.state = .closing → ¬ auxClosed →
        t.connection = { opening with state := .opened, confirm := none, context := none } ∧
        Appended [failed, { kind := .opened, cause := .openRequest, origin := some ⟨.converter, some marker⟩ }] s t ∧
        AnswerAt .converter 0x41 .ok [0x01] s t) ∧
      (s.connection.state = .closed → s.settings.connection.breakCurrent < s.lines.sample.current.natAbs →
        t.connection =
          { s.connection with
            state := .shedding, opening := some record, shed := some s.settings.connection.shedTimeout } ∧
        t.lines.outputs =
          { s.lines.outputs with negMain := true, precharge := false, posMain := true, gridPermissive := true } ∧
        t.envelope.charge.effective = 0 ∧ t.envelope.discharge.effective = 0 ∧ t.monitor.monitoring = false ∧
        JournalKept s t ∧ AnswerAt .converter 0x41 .ok [0x05] s t) ∧
      (s.connection.state = .closed → s.lines.sample.current.natAbs ≤ s.settings.connection.breakCurrent →
        (auxClosed → t.connection = opening ∧ JournalKept s t ∧ AnswerAt .converter 0x41 .ok [0x06] s t) ∧
        (¬ auxClosed → t.connection = { opening with state := .opened, confirm := none, context := none } ∧
          Appended [{ kind := .opened, cause := .openRequest, origin := some ⟨.converter, some marker⟩ }] s t ∧
          AnswerAt .converter 0x41 .ok [0x01] s t))) ∧
  (∀ (s : State) (marker : Byte),
    let origin : Option Origin := some ⟨.station, some marker⟩
    HandedOver .station (.remoteTrip .station marker) s →
    let last : LastTrip := ⟨.remoteTrip, .hard, none, none, none, s.lines.timeBase⟩
    let auxClosed := s.live .negAux = true ∨ s.live .posAux = true
    let closer := s.connection.context.map fun c => (⟨c.port, some c.marker⟩ : Origin)
    let failed : Entry := { kind := .closeFailed, cause := .trip .remoteTrip, origin := closer }
    let entry : Entry := { kind := .trip, cause := .trip .remoteTrip, origin := origin }
    let opened : Entry := { kind := .opened, cause := .trip .remoteTrip, origin := origin }
    ∃ t, exec (.remoteTrip .station marker) s = .next t ∧
      (s.connection.state = .opened ∨ s.connection.state = .lockout →
        AnsweredOnly .station 0x51 .already [] s t) ∧
      (s.connection.state ≠ .opened → s.connection.state ≠ .lockout →
        t.connection.lastTrip = some last ∧ t.connection.permit = s.connection.permit ∧
        AnswerAt .station 0x51 .ok [byteOf t.connection.state.code] s t ∧ PortsAnswered .station s t ∧
        t = { s with
              connection := t.connection, lines.outputs := t.lines.outputs, envelope := t.envelope
              monitor := t.monitor, portUnit := t.portUnit }) ∧
      (s.connection.state = .precharging ∨ s.connection.state = .closing ∨ s.connection.state = .closed →
        auxClosed → t.connection.state = .opening ∧
        t.connection.opening = some ⟨.hard, .trip .remoteTrip, origin, none, none, false⟩ ∧
        t.connection.confirm = some s.settings.connection.confirmTime ∧ PendingEverywhere .trip t) ∧
      (s.connection.state = .precharging ∨ s.connection.state = .closing →
        (auxClosed → Appended [failed, entry] s t) ∧
        (¬ auxClosed → t.connection.state = .opened ∧ t.connection.context = none ∧ t.connection.confirm = none ∧
          Appended [failed, entry, opened] s t)) ∧
      (s.connection.state = .closed →
        (auxClosed → Appended [entry] s t) ∧
        (¬ auxClosed → t.connection.state = .opened ∧ Appended [entry, opened] s t)) ∧
      (∀ o, s.connection.opening = some o →
        (s.connection.state = .shedding → auxClosed → t.connection.state = .opening ∧
          t.connection.opening = some ⟨.hard, .trip .remoteTrip, origin, o.zone, o.location, o.shedTimedOut⟩) ∧
        (s.connection.state = .shedding → ¬ auxClosed → t.connection.state = .opened ∧
          Appended [entry, { opened with
            cause := if o.shedTimedOut then .shedTimeout else .trip .remoteTrip
            zone := o.zone, location := o.location }] s t) ∧
        (s.connection.state = .opening → o.class_ = .hard ∨ o.class_ = .severe →
          t.connection = { s.connection with lastTrip := some last } ∧ JournalKept s t) ∧
        (s.connection.state = .opening → o.class_ ≠ .hard → o.class_ ≠ .severe →
          t.connection =
            { s.connection with
              lastTrip := some last
              opening := some ⟨.hard, .trip .remoteTrip, origin, o.zone, o.location, o.shedTimedOut⟩ } ∧
          Appended [{ kind := .trip, cause := .trip .remoteTrip, origin := origin }] s t ∧
          PendingEverywhere .trip t)))

/-- R101 and R106 to R108. A trip that leads into OPENING is `enterOpening` on the state with its records appended; the
statement of the entry to OPENING says what follows at open contacts. A marker, zone or location that the trip does not
carry stays in the opening record (log 14), and the LOCKOUT record from OPEN carries neither marker nor port (DEDUCED,
log 37). -/
def Obligations.TripTable : Prop :=
  ∀ (trip : Trip) (s : State),
    let class_ := trip.cause.class_
    let last : LastTrip := ⟨trip.cause, trip.cause.class_, trip.zone, trip.location, trip.contactor, s.lines.timeBase⟩
    let auxClosed := s.live .negAux = true ∨ s.live .posAux = true
    let entry : Entry :=
      { kind := .trip, cause := .trip trip.cause, origin := trip.origin, zone := trip.zone, location := trip.location }
    let closer := s.connection.context.map fun c => (⟨c.port, some c.marker⟩ : Origin)
    let opening (o : Opening) : Connection :=
      { s.connection with
        state := .opening, opening := some o, lastTrip := some last, negConfirmed := none, precharge := none
        shed := none, confirm := some s.settings.connection.confirmTime }
    let started : Opening := ⟨class_, .trip trip.cause, trip.origin, trip.zone, trip.location, false⟩
    let replaced (o : Opening) : Opening :=
      ⟨class_, .trip trip.cause, trip.origin <|> o.origin, trip.zone <|> o.zone, trip.location <|> o.location,
        o.shedTimedOut⟩
    let noted : State := { s with connection.lastTrip := some last }
    let failed : Entry :=
      { kind := .closeFailed, cause := .trip trip.cause, origin := closer, zone := trip.zone
        location := trip.location }
    let t := takeTrip trip s
    (class_ = .shed ↔ trip.cause = .energyWithdrawn ∨ trip.cause = .gridWithdrawn ∨ trip.cause = .gridLapsed ∨
      trip.cause = .feederOpened) ∧
    (class_ = .severe ↔ trip.cause = .zoneAlarm ∨ trip.cause = .estop) ∧
    (class_ = .shed ∨ class_ = .hard ∨ class_ = .severe) ∧
    t.connection.lastTrip = some last ∧
    t = { s with
          connection := t.connection, lines.outputs := t.lines.outputs, envelope := t.envelope, monitor := t.monitor
          portUnit := t.portUnit } ∧ PortsNotified s t ∧
    ((s.connection.state = .opened ∧ class_ ≠ .severe) ∨ (s.connection.state = .shedding ∧ class_ = .shed) ∨
        (s.connection.state = .opening ∧ class_ = .shed) ∨ (s.connection.state = .lockout ∧ class_ ≠ .severe) ∨
        (s.connection.state = .opening ∧
          ∃ o, s.connection.opening = some o ∧ (o.class_ = .severe ∨ o.class_ = class_)) →
      t = { s with connection.lastTrip := some last }) ∧
    (s.connection.state = .lockout → class_ = .severe →
      t = { s with connection := { s.connection with lastTrip := some last, siteVote := none, stationVote := none } }) ∧
    (s.connection.state = .opened → class_ = .severe →
      t.connection =
        { s.connection with
          state := .lockout, lastTrip := some last, context := none, negConfirmed := none, precharge := none
          confirm := none, shed := none, siteVote := none, stationVote := none
          lockout := some
            ⟨if trip.cause = .zoneAlarm then .zoneAlarm else .estop, trip.zone, none, s.lines.timeBase⟩ } ∧
      Appended [entry, { kind := .lockout, cause := .trip trip.cause, zone := trip.zone }] s t ∧
      PendingEverywhere .trip t) ∧
    (s.connection.state = .precharging ∨ s.connection.state = .closing → auxClosed →
      t.connection = opening { started with origin := trip.origin <|> closer } ∧
      Appended [failed, entry] s t ∧ PendingEverywhere .trip t) ∧
    (s.connection.state = .precharging ∨ s.connection.state = .closing →
      t = enterOpening { started with origin := trip.origin <|> closer }
        (raise .trip (append entry (append failed noted)))) ∧
    (s.connection.state = .closed → class_ ≠ .shed → t = enterOpening started (raise .trip (append entry noted))) ∧
    (∀ o, s.connection.state = .shedding → class_ ≠ .shed → s.connection.opening = some o →
      t = enterOpening (replaced o) (raise .trip (append entry noted))) ∧
    (s.connection.state = .closed → class_ = .shed →
      s.lines.sample.current.natAbs ≤ s.settings.connection.breakCurrent →
      (auxClosed → t.connection = opening started ∧ Appended [entry] s t) ∧
      (¬ auxClosed →
        t.connection = { opening started with state := .opened, confirm := none, context := none } ∧
        Appended [entry, { kind := .opened, cause := .trip trip.cause, origin := trip.origin, zone := trip.zone
                           location := trip.location }] s t)) ∧
    (s.connection.state = .closed → class_ ≠ .shed → auxClosed →
      t.connection = opening started ∧ Appended [entry] s t ∧ PendingEverywhere .trip t) ∧
    (s.connection.state = .closed → class_ = .shed →
      s.settings.connection.breakCurrent < s.lines.sample.current.natAbs →
      t.connection =
        { s.connection with
          state := .shedding, opening := some started, lastTrip := some last
          shed := some s.settings.connection.shedTimeout } ∧
      Appended [entry] s t ∧ PendingEverywhere .trip t) ∧
    (∀ o, s.connection.state = .shedding → class_ ≠ .shed → s.connection.opening = some o → auxClosed →
      t.connection = opening (replaced o) ∧ Appended [entry] s t ∧ PendingEverywhere .trip t) ∧
    ∀ o, s.connection.state = .opening → class_ ≠ .shed → s.connection.opening = some o → o.class_ ≠ .severe →
      o.class_ ≠ class_ →
      t.connection = { s.connection with lastTrip := some last, opening := some (replaced o) } ∧
      Appended [entry] s t ∧ PendingEverywhere .trip t

/-- R94, R110, R111 and R112. A SEVERE opening has the cause ZONE_ALARM or ESTOP (R106). -/
def Obligations.OpeningEntered : Prop :=
  ∀ (o : Opening) (s : State),
    let opening : Connection :=
      { s.connection with
        state := .opening, opening := some o, negConfirmed := none, precharge := none, shed := none
        confirm := some s.settings.connection.confirmTime }
    let opened : Entry :=
      { kind := .opened
        cause := if o.shedTimedOut then .shedTimeout else match o.cause with
          | .openRequest => .openRequest
          | .failed f => .failed f
          | .trip c => .trip c
        origin := o.origin, zone := o.zone, location := o.location }
    let t := enterOpening o s
    t = { s with
          connection := t.connection, lines.outputs := t.lines.outputs, envelope := t.envelope, monitor := t.monitor
          portUnit := t.portUnit } ∧ PortsNotified s t ∧ PendingEverywhere .connection t ∧
    t.lines.outputs =
      { s.lines.outputs with negMain := false, precharge := false, posMain := false, gridPermissive := false } ∧
    (s.live .negAux = true ∨ s.live .posAux = true → t.connection = opening ∧ JournalKept s t) ∧
    (s.live .negAux = false → s.live .posAux = false → o.class_ ≠ .severe →
      t.connection = { opening with state := .opened, confirm := none, context := none } ∧ Appended [opened] s t ∧
      t.monitor.chargeSum = 0 ∧ t.monitor.dischargeSum = 0 ∧ t.monitor.monitoring = (s.monitor.monitoring &&
        decide (s.connection.state ≠ .closed))) ∧
    ∀ c, s.live .negAux = false → s.live .posAux = false → o.class_ = .severe → o.cause = .trip c →
      c = .zoneAlarm ∨ c = .estop →
      t.connection =
        { opening with
          state := .lockout, confirm := none, context := none, siteVote := none, stationVote := none
          lockout := some ⟨if c = .zoneAlarm then .zoneAlarm else .estop, o.zone, none, s.lines.timeBase⟩ } ∧
      Appended [opened, { kind := .lockout, cause := .trip c, origin := o.origin, zone := o.zone }] s t

/-- R98 to R101, R104 and R110 to R112. Each of the three commands answers a next state in every state. That a countdown
not at 0 does not expire is the model's choice (log 2). In R98's pair the states after the failure and after the change
are `u` and `t`; that the change is then what the debounce expiry of NEG_AUX makes of `u`, and that R110's check at
entry gives way to its check at that change, are DEDUCED (log 39). -/
def Obligations.ConnectionExpiries : Prop :=
  ∀ s : State,
    let auxClosed := s.live .negAux = true ∨ s.live .posAux = true
    let closer := s.connection.context.map fun c => (⟨c.port, some c.marker⟩ : Origin)
    let opening (o : Opening) : Connection :=
      { s.connection with
        state := .opening, opening := some o, negConfirmed := none, precharge := none, shed := none
        confirm := some s.settings.connection.confirmTime }
    let pair : Prop :=
      s.connection.state = .precharging ∧ s.connection.confirm = some 0 ∧ (s.input .negAux).started = true ∧
        (s.input .negAux).debounce = some 0 ∧ (s.input .negAux).raw = true ∧ (s.input .negAux).live = false
    let fails (f : CloseFailure) (stays : Prop) (t : State) : Prop :=
      let record : Opening := ⟨.failure, .failed f, closer, none, none, false⟩
      let failed : Entry := { kind := .closeFailed, cause := .failed f, origin := closer }
      PendingEverywhere .connection t ∧
      t.lines.outputs =
        { s.lines.outputs with negMain := false, precharge := false, posMain := false, gridPermissive := false } ∧
      (stays → t.connection = opening record ∧ Appended [failed] s t) ∧
      (¬ stays →
        t.connection = { opening record with state := .opened, confirm := none, context := none } ∧
        Appended [failed, { kind := .opened, cause := .failed f, origin := closer }] s t)
    let only (t : State) : Prop :=
      t = { s with
            connection := t.connection, lines.outputs := t.lines.outputs, envelope := t.envelope
            monitor := t.monitor, portUnit := t.portUnit } ∧ PortsNotified s t
    (pair → ∃ u t, only u ∧ fails .contactorNeg True u ∧ exec (.debounceExpiry .negAux) u = .next t ∧
      exec .confirmCountdownExpiry s = .next t ∧ t.connection = u.connection ∧ t.live .negAux = true) ∧
    (∃ t, exec .confirmCountdownExpiry s = .next t ∧ (¬ pair → only t) ∧
      (s.connection.confirm ≠ some 0 → t = s) ∧
      (s.connection.confirm = some 0 →
        (s.connection.state = .precharging → ¬ pair → fails .contactorNeg auxClosed t) ∧
        (s.connection.state = .closing → fails .contactorPos auxClosed t) ∧
        (s.connection.state = .opening → auxClosed →
          t.connection =
            { s.connection with
              state := .lockout, context := none, negConfirmed := none, precharge := none, confirm := none
              shed := none, siteVote := none, stationVote := none
              lockout := some
                ⟨.weld, none,
                  some (if s.live .negAux = false then .pos else if s.live .posAux = false then .neg else .both),
                  s.lines.timeBase⟩ } ∧
          Appended [{ kind := .lockout, cause := .weld, origin := s.connection.opening.bind (·.origin) }] s t) ∧
        ∀ o, s.connection.state = .opening → ¬ auxClosed → s.connection.opening = some o → o.class_ ≠ .severe →
          t.connection = { s.connection with state := .opened, confirm := none, context := none } ∧
          Appended [{ kind := .opened
                      cause := if o.shedTimedOut then .shedTimeout else match o.cause with
                        | .openRequest => .openRequest
                        | .failed f => .failed f
                        | .trip c => .trip c
                      origin := o.origin, zone := o.zone, location := o.location }] s t)) ∧
    (∃ t, exec .prechargeTimeout s = .next t ∧ only t ∧
      (s.connection.precharge ≠ some 0 → t = s) ∧
      (s.connection.precharge = some 0 → s.connection.state = .precharging →
        fails .prechargeTimeout auxClosed t)) ∧
    ∃ t, exec .shedTimeout s = .next t ∧ only t ∧
      (s.connection.shed ≠ some 0 → t = s) ∧
      ∀ o, s.connection.shed = some 0 → s.connection.state = .shedding → s.connection.opening = some o →
        (auxClosed → t.connection = opening { o with shedTimedOut := true } ∧ JournalKept s t) ∧
        (¬ auxClosed → o.class_ ≠ .severe →
          t.connection =
            { opening { o with shedTimedOut := true } with state := .opened, confirm := none, context := none } ∧
          Appended [{ kind := .opened, cause := .shedTimeout, origin := o.origin, zone := o.zone
                      location := o.location }] s t)

/-- R89 to R92. The hold counts down in milliseconds (log 17), one not at 0 does not expire (log 2), and the order of
the fields of GRANT's OK, its hold granted without a presence byte, and the empty payloads of OUT_OF_RANGE, ALREADY and
WITHDRAW's OK are the model's choices (log 15). What the trip does outside CLOSED at a high current is stated with the
trips. -/
def Obligations.PermitRequests : Prop :=
  (∀ (s : State) (action : Byte), action ≠ 0x02 →
    let permit := s.connection.permit
    (HandedOver .site (.energyPermitGrant .site action) s →
      ∃ t, exec (.energyPermitGrant .site action) s = .next t ∧
      (action = 0x01 → permit.energy = .withdrawn →
        AnswerAt .site 0x2B .ok [0x02] s t ∧ PortsAnswered .site s t ∧ JournalKept s t ∧
        PendingEverywhere .permit t ∧
        t = { s with connection.permit.energy := .granted, portUnit := t.portUnit }) ∧
      (action = 0x01 → permit.energy = .granted → AnsweredOnly .site 0x2B .already [0x02] s t) ∧
      (action ≠ 0x01 →
        AnsweredOnly .site 0x2B .outOfRange [if permit.energy = .granted then 0x02 else 0x01] s t)) ∧
    (HandedOver .site (.energyPermitWithdraw .site) s →
      ∃ t, exec (.energyPermitWithdraw .site) s = .next t ∧
      (permit.energy = .withdrawn → AnsweredOnly .site 0x2B .already [0x01] s t) ∧
      (permit.energy = .granted →
        let last : LastTrip := ⟨.energyWithdrawn, .shed, none, none, none, s.lines.timeBase⟩
        AnswerAt .site 0x2B .ok [0x01] s t ∧ PortsAnswered .site s t ∧ PendingEverywhere .permit t ∧
        t.connection.permit = { permit with energy := .withdrawn } ∧ t.connection.lastTrip = some last ∧
        t = { s with
              connection := t.connection, lines.outputs := t.lines.outputs, envelope := t.envelope
              monitor := t.monitor, portUnit := t.portUnit } ∧
        (s.connection.state ≠ .precharging → s.connection.state ≠ .closing → s.connection.state ≠ .closed →
          JournalKept s t ∧
          t.connection = { s.connection with permit.energy := .withdrawn, lastTrip := some last }) ∧
        (s.connection.state = .closed → s.settings.connection.breakCurrent < s.lines.sample.current.natAbs →
          t.connection.state = .shedding ∧
          t.connection.opening = some ⟨.shed, .trip .energyWithdrawn, some ⟨.site, none⟩, none, none, false⟩ ∧
          Appended [{ kind := .trip, cause := .trip .energyWithdrawn, origin := some ⟨.site, none⟩ }] s t)))) ∧
  (∀ (s : State) (action : Byte) (sent : Word16), action ≠ 0x02 →
    let permit := s.connection.permit
    let hold := if sent = 0 then 300 else if sent.toNat < 10 then 10 else if 3600 < sent.toNat then 3600 else sent.toNat
    let tripped (cause : TripCause) (t : State) : Prop :=
      t.connection.lastTrip = some ⟨cause, .shed, none, none, none, s.lines.timeBase⟩ ∧ PendingEverywhere .permit t ∧
      (s.connection.state = .closed → s.settings.connection.breakCurrent < s.lines.sample.current.natAbs →
        t.connection.state = .shedding)
    let only (t : State) : Prop :=
      t = { s with
            connection := t.connection, lines.outputs := t.lines.outputs, envelope := t.envelope
            monitor := t.monitor, portUnit := t.portUnit }
    (HandedOver .station (.gridPermitGrant .station action sent) s →
      ∃ t, exec (.gridPermitGrant .station action sent) s = .next t ∧
      (action = 0x01 →
        AnswerAt .station 0x50 .ok ([0x02] ++ f2 hold ++ [if permit.grid = .valid then 0x00 else 0x01]) s t ∧
        PortsAnswered .station s t ∧ JournalKept s t ∧
        t = { s with
              connection.permit := ⟨permit.energy, .valid, some (1000 * hold), some hold⟩, portUnit := t.portUnit } ∧
        (permit.grid ≠ .valid → PendingEverywhere .permit t) ∧
        (permit.grid = .valid → ∀ p, (t.port p).pendingSet = (s.port p).pendingSet)) ∧
      (action ≠ 0x01 → AnsweredOnly .station 0x50 .outOfRange [] s t)) ∧
    (HandedOver .station (.gridPermitWithdraw .station sent) s →
      ∃ t, exec (.gridPermitWithdraw .station sent) s = .next t ∧
      (permit.grid = .withdrawn → AnsweredOnly .station 0x50 .already [] s t) ∧
      (permit.grid ≠ .withdrawn →
        AnswerAt .station 0x50 .ok [] s t ∧ PortsAnswered .station s t ∧ PendingEverywhere .permit t ∧ only t ∧
        t.connection.permit = ⟨permit.energy, .withdrawn, none, none⟩) ∧
      (permit.grid = .valid → tripped .gridWithdrawn t) ∧
      (permit.grid = .lapsed → JournalKept s t ∧
        t = { s with connection.permit := ⟨permit.energy, .withdrawn, none, none⟩, portUnit := t.portUnit })) ∧
    ∃ t, exec .gridHoldExpiry s = .next t ∧
      (permit.holdRemaining ≠ some 0 → t = s) ∧
      (permit.holdRemaining = some 0 →
        t.connection.permit = ⟨permit.energy, .lapsed, none, none⟩ ∧ tripped .gridLapsed t ∧ only t ∧
        PortsNotified s t))

/-- R114 to R116. The bytes of the OK answer, the order of REFUSED's fields and the empty payload of WRONG_STATE are the
model's choice (log 15), and that a vote with time left does not expire (log 2). -/
def Obligations.ClearLockoutVotes : Prop :=
  ∀ s : State,
    let clear :=
      s.live .negAux = false ∧ s.live .posAux = false ∧ (∀ z, ¬ BeyondPreAlarm (s.zone z).state) ∧ ¬ CellLost s
    let window := some (1000 * s.settings.connection.voteWindow)
    let sent (v : Option Nat) : List Byte :=
      match v with
      | some n => 0x01 :: f4 n
      | none => [0x00, 0x00, 0x00, 0x00, 0x00]
    let voted (p : PortId) (partner : Option Nat) (after : Connection) (t : State) : Prop :=
      (s.connection.state ≠ .lockout → AnsweredOnly p 0x30 .wrongState [] s t) ∧
      (s.connection.state = .lockout → ¬ clear →
        ∃ failing : Byte, AnsweredOnly p 0x30 .refused
            ([0x11, failing] ++ sent s.connection.siteVote ++ sent s.connection.stationVote) s t ∧
          (failing.getLsbD 0 = true ↔ s.live .negAux = true ∨ s.live .posAux = true) ∧
          (failing.getLsbD 1 = true ↔ ∃ z, BeyondPreAlarm (s.zone z).state) ∧
          (failing.getLsbD 2 = true ↔ CellLost s) ∧ ∀ k, 3 ≤ k → failing.getLsbD k = false) ∧
      (s.connection.state = .lockout → clear → partner = none →
        AnswerAt p 0x30 .ok [0x01, 0x07] s t ∧ PortsAnswered p s t ∧ JournalKept s t ∧
        (∀ q, (t.port q).pendingSet = (s.port q).pendingSet) ∧
        t = { s with connection := after, portUnit := t.portUnit }) ∧
      (∀ l, s.connection.state = .lockout → clear → partner ≠ none → s.connection.lockout = some l →
        AnswerAt p 0x30 .ok [0x00, 0x01] s t ∧ PortsAnswered p s t ∧ PendingEverywhere .connection t ∧
        t.connection =
          { s.connection with state := .opened, lockout := none, siteVote := none, stationVote := none } ∧
        Appended [{ kind := .lockoutCleared, origin := some ⟨p, none⟩
                    cause := match l.cause with
                      | .weld => .weld
                      | .weldAtStart => .weldAtStart
                      | .zoneAlarm => .trip .zoneAlarm
                      | .estop => .trip .estop }] s t ∧
        t = { s with
              connection := t.connection, lines.outputs := t.lines.outputs, envelope := t.envelope
              monitor := t.monitor, portUnit := t.portUnit })
    (HandedOver .site (.clearLockout .site) s → ∃ t, exec (.clearLockout .site) s = .next t ∧
      voted .site s.connection.stationVote { s.connection with siteVote := window } t) ∧
    (HandedOver .station (.clearLockout .station) s → ∃ t, exec (.clearLockout .station) s = .next t ∧
      voted .station s.connection.siteVote { s.connection with stationVote := window } t) ∧
    exec (.voteExpiry .site) s
      = .next (if s.connection.siteVote = some 0 then { s with connection.siteVote := none } else s) ∧
    exec (.voteExpiry .station) s
      = .next (if s.connection.stationVote = some 0 then { s with connection.stationVote := none } else s)

/-- R132 to R136, R138 and R139. That a countdown not at 0 does not expire is the model's choice (log 2). What the trip
does at the connection stands in `Obligations.TripTable`. Outside DORMANT nothing but the named parts changes; in
DORMANT a zone that leaves NORMAL, or a cooling health that degrades, is a wake. -/
def Obligations.ZoneExpiries : Prop :=
  ∀ (s : State) (z : Zone),
    let r := s.zone z
    let delay := 1000 * s.settings.fire.releaseDelay
    let noted (new : ZoneState) : Entry := { kind := .zoneState, cause := .zone new, zone := some z }
    let release : Entry :=
      { kind := .agentRelease, cause := if s.live .damperClosed then .zone .released else .damperOpen, zone := some z }
    let quiet := { r with clearCountdown := none, singleSource := none }
    let released (old : ZoneRecord) : ZoneRecord :=
      { old with
        state := .released, stationHold := false, countdown := none, releasedFor := some 0
        lastRelease := some ⟨s.lines.timeBase, s.live .damperClosed⟩ }
    let became (new : ZoneRecord) (t : State) : Prop :=
      t.zone z = new ∧ (∀ y, y ≠ z → t.zone y = s.zone y) ∧ t.zones.channels = s.zones.channels ∧
      (t.lines.outputs.agent.get z = true ↔ new.state = .released) ∧
      (∀ y, y ≠ z → t.lines.outputs.agent.get y = s.lines.outputs.agent.get y) ∧
      PendingEverywhere .fire t ∧ PortsNotified s t ∧
      (s.stateUnit.state ≠ .dormant →
        t = { s with
              zones := t.zones, connection := t.connection, lines.outputs := t.lines.outputs
              envelope := t.envelope, monitor := t.monitor, cooling := t.cooling, balance := t.balance
              stateUnit.sleepPending := t.stateUnit.sleepPending, portUnit := t.portUnit })
    let tripped (t : State) : Prop :=
      t.connection.lastTrip = some ⟨.zoneAlarm, .severe, some z, none, none, s.lines.timeBase⟩ ∧
      (t.connection.state = .opening ∨ t.connection.state = .lockout)
    (∃ t, exec (.clearCountdownExpiry z) s = .next t ∧
      (r.clearCountdown ≠ some 0 → t = s) ∧
      (r.clearCountdown = some 0 → became { quiet with state := .normal } t ∧ t.connection = s.connection ∧
        (s.stateUnit.state ≠ .dormant → Appended [noted .normal] s t))) ∧
    (∃ t, exec (.releaseCountdownExpiry z) s = .next t ∧
      (¬ (r.state = .countdown ∧ r.countdown = some 0) → t = s) ∧
      (r.state = .countdown → r.countdown = some 0 → became (released r) t ∧ t.connection = s.connection ∧
        (s.stateUnit.state ≠ .dormant → Appended [noted .released, release] s t))) ∧
    ∃ t, exec (.singleSourceExpiry z) s = .next t ∧
      (r.singleSource ≠ some 0 → t = s) ∧
      (r.singleSource = some 0 → r.state = .preAlarm →
        tripped t ∧
        (s.settings.fire.arming.get z = false → became { quiet with state := .alarm } t ∧
          (s.stateUnit.state ≠ .dormant → ∃ l, Appended (noted .alarm :: l) s t)) ∧
        (s.settings.fire.arming.get z = true → s.live .holdSwitch = true →
          became { quiet with state := .held, stationHold := false, countdown := some delay } t ∧
          (s.stateUnit.state ≠ .dormant → ∃ l, Appended (noted .countdown :: l ++ [noted .held]) s t)) ∧
        (s.settings.fire.arming.get z = true → s.live .holdSwitch = false → delay ≠ 0 →
          became { quiet with state := .countdown, stationHold := false, countdown := some delay } t ∧
          (s.stateUnit.state ≠ .dormant → ∃ l, Appended (noted .countdown :: l) s t)) ∧
        (s.settings.fire.arming.get z = true → s.live .holdSwitch = false → delay = 0 →
          became (released quiet) t ∧
          (s.stateUnit.state ≠ .dormant →
            ∃ l, Appended (noted .countdown :: l ++ [noted .released, release]) s t)))

/-- R136 and R141 to R143, with R134 and R135 for the end of a hold. Answers but OUT_OF_RANGE carry the zone's record
after the request, that of HOLD_RELEASE the switch level after it, that of REFUSED the reason and the failing parts
before it: an order of the model's choice (log 15), as is the empty payload of OUT_OF_RANGE (log 33). -/
def Obligations.ZoneRequests : Prop :=
  (∀ (s : State) (sent : Byte),
    let switch := if s.live .holdSwitch then [0x01] else [0x00]
    (sent = 0 ∨ 4 < sent.toNat →
      (HandedOver .station (.hold .station sent) s →
        ∃ t, exec (.hold .station sent) s = .next t ∧ AnsweredOnly .station 0x52 .outOfRange [] s t) ∧
      (HandedOver .station (.holdRelease .station sent) s →
        ∃ t, exec (.holdRelease .station sent) s = .next t ∧ AnsweredOnly .station 0x53 .outOfRange [] s t) ∧
      HandedOver .station (.abort .station sent) s →
        ∃ t, exec (.abort .station sent) s = .next t ∧ AnsweredOnly .station 0x54 .outOfRange [] s t) ∧
    ∀ z, Zone.ofNumber sent.toNat = some z →
    let r := s.zone z
    let noted (new : ZoneState) : Entry :=
      { kind := .zoneState, cause := .zone new, origin := some ⟨.station, none⟩, zone := some z }
    let became (new : ZoneRecord) (t : State) : Prop :=
      t.zone z = new ∧ (∀ y, y ≠ z → t.zone y = s.zone y) ∧ t.zones.channels = s.zones.channels ∧
      t.connection = s.connection ∧ PortsAnswered .station s t ∧ PendingEverywhere .fire t ∧
      (s.stateUnit.state ≠ .dormant →
        t = { s with
              zones := t.zones, lines.outputs := t.lines.outputs, envelope := t.envelope, cooling := t.cooling
              balance := t.balance, stateUnit.sleepPending := t.stateUnit.sleepPending, portUnit := t.portUnit })
    (HandedOver .station (.hold .station sent) s →
      ∃ t, exec (.hold .station sent) s = .next t ∧
      (r.state = .countdown →
        AnswerAt .station 0x52 .ok (zoneField t z) s t ∧ became { r with state := .held, stationHold := true } t ∧
        (s.stateUnit.state ≠ .dormant → Appended [noted .held] s t)) ∧
      (r.state = .held → r.stationHold = false →
        AnswerAt .station 0x52 .ok (zoneField t z) s t ∧ t.zone z = { r with stationHold := true } ∧
        t = { s with zones.zones := s.zones.zones.set z { r with stationHold := true }, portUnit := t.portUnit } ∧
        PortsAnswered .station s t ∧ JournalKept s t) ∧
      (r.state = .held → r.stationHold = true → AnsweredOnly .station 0x52 .already (zoneField s z) s t) ∧
      (r.state = .released → AnsweredOnly .station 0x52 .tooLate (zoneField s z) s t) ∧
      (r.state = .normal ∨ r.state = .preAlarm ∨ r.state = .alarm ∨ r.state = .aborted →
        AnsweredOnly .station 0x52 .wrongState (zoneField s z) s t)) ∧
    (HandedOver .station (.holdRelease .station sent) s →
      ∃ t, exec (.holdRelease .station sent) s = .next t ∧
      (r.stationHold = false ∨ (r.state ≠ .countdown ∧ r.state ≠ .held) →
        AnsweredOnly .station 0x53 .already (zoneField s z ++ switch) s t) ∧
      (r.stationHold = true → (r.state = .held → s.live .holdSwitch = true) →
        r.state = .countdown ∨ r.state = .held →
        AnswerAt .station 0x53 .ok (zoneField t z ++ switch) s t ∧ PortsAnswered .station s t ∧ JournalKept s t ∧
        t = { s with zones.zones := s.zones.zones.set z { r with stationHold := false }, portUnit := t.portUnit }) ∧
      (r.stationHold = true → r.state = .held → s.live .holdSwitch = false →
        AnswerAt .station 0x53 .ok (zoneField t z ++ switch) s t ∧
        (r.countdown ≠ some 0 → became { r with state := .countdown, stationHold := false } t ∧
          (s.stateUnit.state ≠ .dormant → Appended [noted .countdown] s t)) ∧
        (r.countdown = some 0 →
          became
            { r with
              state := .released, stationHold := false, countdown := none, releasedFor := some 0
              lastRelease := some ⟨s.lines.timeBase, s.live .damperClosed⟩ } t ∧
          t.lines.outputs.agent.get z = true))) ∧
    HandedOver .station (.abort .station sent) s →
      ∃ t, exec (.abort .station sent) s = .next t ∧
      (r.state = .countdown ∨ r.state = .held →
        AnswerAt .station 0x54 .ok (zoneField t z) s t ∧
        became { r with state := .aborted, stationHold := false, countdown := none } t ∧
        t.lines.outputs.agent.get z = false ∧
        (s.stateUnit.state ≠ .dormant → Appended [noted .aborted] s t)) ∧
      (r.state = .released → AnsweredOnly .station 0x54 .tooLate (zoneField s z) s t) ∧
      (r.state = .aborted → AnsweredOnly .station 0x54 .already (zoneField s z) s t) ∧
      (r.state = .normal ∨ r.state = .preAlarm ∨ r.state = .alarm →
        AnsweredOnly .station 0x54 .wrongState (zoneField s z) s t)) ∧
  (∀ (s : State) (sent : Byte),
    (sent = 0 ∨ 4 < sent.toNat →
      HandedOver .station (.resetZone .station sent) s →
        ∃ t, exec (.resetZone .station sent) s = .next t ∧ AnsweredOnly .station 0x55 .outOfRange [] s t) ∧
    ∀ z, Zone.ofNumber sent.toNat = some z →
    let r := s.zone z
    let noted (new : ZoneState) : Entry :=
      { kind := .zoneState, cause := .zone new, origin := some ⟨.station, none⟩, zone := some z }
    let became (new : ZoneRecord) (t : State) : Prop :=
      t.zone z = new ∧ (∀ y, y ≠ z → t.zone y = s.zone y) ∧ t.zones.channels = s.zones.channels ∧
      t.connection = s.connection ∧ PortsAnswered .station s t ∧ PendingEverywhere .fire t ∧
      (s.stateUnit.state ≠ .dormant →
        t = { s with
              zones := t.zones, lines.outputs := t.lines.outputs, envelope := t.envelope, cooling := t.cooling
              balance := t.balance, stateUnit.sleepPending := t.stateUnit.sleepPending, portUnit := t.portUnit })
    let raised := ∃ c ∈ s.zones.channels, c.zone = some z ∧ c.level ≠ .quiet
    let unready := r.state = .released ∧ s.live .agentReady = false
    let beyond := r.state ≠ .normal ∧ r.state ≠ .countdown ∧ r.state ≠ .held
    HandedOver .station (.resetZone .station sent) s →
      ∃ t, exec (.resetZone .station sent) s = .next t ∧
      (r.state = .normal → AnsweredOnly .station 0x55 .already (zoneField s z) s t) ∧
      (r.state = .countdown ∨ r.state = .held → AnsweredOnly .station 0x55 .wrongState (zoneField s z) s t) ∧
      (beyond → raised ∨ r.thermal = true ∨ unready →
        ∃ failing : Byte, AnsweredOnly .station 0x55 .refused ([0x11, failing] ++ zoneField s z) s t ∧
          (failing.getLsbD 0 = true ↔ raised) ∧ (failing.getLsbD 1 = r.thermal) ∧
          (failing.getLsbD 2 = true ↔ unready) ∧ ∀ k, 3 ≤ k → failing.getLsbD k = false) ∧
      (beyond → ¬ raised → r.thermal = false → ¬ unready →
        AnswerAt .station 0x55 .ok (zoneField t z) s t ∧
        became
          { r with
            state := .normal, stationHold := false, countdown := none, clearCountdown := none
            singleSource := none, releasedFor := none } t ∧
        t.lines.outputs.agent.get z = false ∧
        (s.stateUnit.state ≠ .dormant → Appended [noted .normal] s t)))

/-- R150, R151 and R152. In OVERRIDE an override is held. -/
def Obligations.CoolingEvaluation : Prop :=
  ∀ s : State,
    let c := s.cooling
    let k := s.settings.cooling
    let now (z : Zone) (l : List ZoneState) := (s.zone z).state ∈ l
    let gas (z : Zone) (l : List Level) :=
      ∃ x ∈ s.zones.channels, x.zone = some z ∧ x.kind = some .offgas ∧ x.level ∈ l
    let aged (z : Zone) := ∃ ms, (s.zone z).releasedFor = some ms ∧ 1000 * k.purgeDelay < ms
    let held := c.purgeLatch = true ∧ ∃ z, now z [.released] ∧ gas z [.warn, .alarm, .call]
    let set_ := c.purgeLatch = false ∧ ∃ z, now z [.released] ∧ aged z ∧ gas z [.alarm]
    let cases : List (Prop × CoolingMode) :=
      [ (∃ z, now z [.countdown, .held], .seal),
        ((∃ z, now z [.released]) ∧ (held ∨ set_), .purge),
        (∃ z, now z [.released], .seal),
        (∃ z, now z [.preAlarm, .alarm, .aborted] ∧ gas z [.warn, .alarm, .call], .exhaust),
        (c.override ≠ none, .override),
        (c.heatRequest = true, .heat),
        (c.coolRequest = true, .cool),
        (True, .idle) ]
    let t := evaluateCooling s
    let lines (rack pump exhaust condenser : Nat) (chiller heater dampers : Bool) : Prop :=
      t.lines =
        { s.lines with
          outputs :=
            { s.lines.outputs with
              rackFans := rack, pump := pump, exhaust := exhaust, condenser := condenser, chillerRun := chiller
              heater := heater, dampersOpen := dampers } }
    (t.cooling.purgeLatch = true ↔ held ∨ set_) ∧
    (∀ (i : Nat) (holds : Prop) (mode : CoolingMode), cases[i]? = some (holds, mode) → holds →
      (∀ (j : Nat) (earlier : Prop × CoolingMode), j < i → cases[j]? = some earlier → ¬ earlier.1) →
      t.cooling.mode = mode) ∧
    (t.cooling.modeEntered = if t.cooling.mode = c.mode then c.modeEntered else s.lines.timeBase) ∧
    (t.cooling.mode = .idle → lines 0 k.minimumLevel 0 0 false false false) ∧
    (t.cooling.mode = .cool → lines c.demand c.demand 0 c.demand true false false) ∧
    (t.cooling.mode = .heat → lines 2 k.heatLevel 0 0 false true false) ∧
    (t.cooling.mode = .exhaust → lines 15 c.demand 15 c.demand true false true) ∧
    (t.cooling.mode = .seal → lines 0 15 0 c.demand true false false) ∧
    (t.cooling.mode = .purge → lines 0 15 15 c.demand true false true) ∧
    (∀ o, t.cooling.mode = .override → c.override = some o →
      lines o.rackFans o.pump o.exhaust o.condenser o.chiller o.heater o.dampers) ∧
    t.cooling.heatRequest = c.heatRequest ∧ t.cooling.coolRequest = c.coolRequest ∧ t.cooling.demand = c.demand ∧
    t.cooling.override = c.override ∧ t.cooling.tmax = c.tmax ∧ t.cooling.tmin = c.tmin

/-- R147 to R149, with R67 for the sensors that contribute. -/
def Obligations.CoolingPublication : Prop :=
  ∀ s : State,
    let k := s.settings.cooling
    let gives (x : Sensor) (v : Int) :=
      x.populated = true ∧ x.masked = false ∧ (x.condition = .fresh ∨ x.condition = .stale) ∧ x.reading = some v
    let readings (v : Int) := ∃ x ∈ s.records.image.sensors, gives x v
    let t := coolingPublication s
    let c := t.cooling
    (∀ v, c.tmax = some v ↔ readings v ∧ ∀ w, readings w → w ≤ v) ∧
    (∀ v, c.tmin = some v ↔ readings v ∧ ∀ w, readings w → v ≤ w) ∧
    ((∀ v, ¬ readings v) → c.tmax = none ∧ c.tmin = none ∧ c.heatRequest = s.cooling.heatRequest ∧
      c.coolRequest = s.cooling.coolRequest ∧ c.demand = k.fallbackLevel) ∧
    (∀ v, c.tmin = some v →
      c.heatRequest = if v < k.heatOn then true else if k.heatOff ≤ v then false else s.cooling.heatRequest) ∧
    (∀ v, c.tmax = some v →
      (c.coolRequest = if k.coolOn ≤ v then true else if v ≤ k.coolOff then false else s.cooling.coolRequest) ∧
      c.demand = min 15 (k.minimumLevel + (max 0 (v - k.coolSetPoint) * k.gain / 100).toNat)) ∧
    t = evaluateCooling
      { s with cooling :=
          { s.cooling with
            tmax := c.tmax, tmin := c.tmin, heatRequest := c.heatRequest, coolRequest := c.coolRequest
            demand := c.demand } }

/-- R153 to R155. The layout of SET's OK and the empty payloads of the other answers (log 15) and the flags of the
record's switched values (log 16) are the model's choices, and so is that an override with time remaining does not
expire (log 2). A SET command carries an action other than CANCEL. -/
def Obligations.OverrideRequests : Prop :=
  ∀ (s : State) (action : Byte) (f : OverrideFields), action ≠ 0x02 →
    let level (b : Byte) := if 15 < b.toNat then 15 else b.toNat
    let minutes := if f.duration = 0 then 1 else if 60 < f.duration.toNat then 60 else f.duration.toNat
    let o : Override :=
      ⟨level f.rackFans, level f.pump, level f.exhaust, level f.condenser, decide (f.chiller ≠ 0),
        decide (f.heater ≠ 0), decide (f.dampers ≠ 0), minutes, 60000 * minutes⟩
    let bit (b : Bool) : Byte := if b then 0x01 else 0x00
    let record : List Byte :=
      [byteOf o.rackFans, byteOf o.pump, byteOf o.exhaust, byteOf o.condenser, bit o.chiller, bit o.heater,
        bit o.dampers, byteOf o.duration] ++ f4 o.remaining
    let mode (m : CoolingMode) : Byte :=
      match m with
      | .idle => 1 | .cool => 2 | .heat => 3 | .exhaust => 4 | .seal => 5 | .purge => 6 | .override => 7
    let with_ := evaluateCooling { s with cooling.override := some o }
    let without := evaluateCooling { s with cooling.override := none }
    (HandedOver .site (.coolingOverrideSet .site action f) s →
      ∃ t, exec (.coolingOverrideSet .site action f) s = .next t ∧
      (action = 0x01 →
        AnswerAt .site 0x2A .ok ([0x01] ++ record ++ [mode t.cooling.mode]) s t ∧
        PortsAnswered .site s t ∧ t = { with_ with portUnit := t.portUnit } ∧ t.cooling.override = some o) ∧
      (action ≠ 0x01 → AnsweredOnly .site 0x2A .outOfRange [] s t)) ∧
    (HandedOver .site (.coolingOverrideCancel .site) s →
      ∃ t, exec (.coolingOverrideCancel .site) s = .next t ∧
      (s.cooling.override = none → AnsweredOnly .site 0x2A .already [] s t) ∧
      (s.cooling.override ≠ none →
        AnswerAt .site 0x2A .ok [] s t ∧ PortsAnswered .site s t ∧ t = { without with portUnit := t.portUnit } ∧
        t.cooling.override = none)) ∧
    (s.cooling.override = none → exec .overrideExpiry s = .next s) ∧
    ∀ held, s.cooling.override = some held →
      (held.remaining ≠ 0 → exec .overrideExpiry s = .next s) ∧
      (held.remaining = 0 → exec .overrideExpiry s = .next without ∧ without.cooling.override = none)

/-- R156 to R159, R169 and R171. Outside DORMANT a change to DEGRADED is no more than the end of a pending sleep. That a
countdown not at 0 does not expire is the model's choice (log 2). -/
def Obligations.CoolingHealth : Prop :=
  ∀ (s : State) (supply return_ : Option Int),
    let c := s.cooling
    let code (v : Option Int) : Option Int := v.bind fun t => if -400 ≤ t ∧ t ≤ 1250 then some t else none
    let sampled : State := { s with lines.coolant := some ⟨code supply, code return_⟩ }
    let judged (b : State) (new : Cooling) (t : State) : Prop :=
      let was := c.flowCondition = true ∨ c.chillerCondition = true ∨ c.supplyCondition = true
      let is := new.flowCondition = true ∨ new.chillerCondition = true ∨ new.supplyCondition = true
      (c.health = .normal → is → t.cooling = { new with health := .degraded } ∧ PendingEverywhere .cooling t ∧
        (s.stateUnit.state ≠ .dormant →
          t = { b with
                cooling := t.cooling, envelope := t.envelope, portUnit := t.portUnit
                stateUnit.sleepPending := t.stateUnit.sleepPending } ∧
          JournalKept s t ∧ PortsNotified s t ∧
          (s.stateUnit.state = .run → t.stateUnit.sleepPending = false))) ∧
      (c.health = .normal → ¬ is → t = { b with cooling := new }) ∧
      (c.health = .degraded → is → t = { b with cooling := { new with recovery := none } }) ∧
      (c.health = .degraded → ¬ is → was → t = { b with cooling := { new with recovery := some 30000 } }) ∧
      (c.health = .degraded → ¬ is → ¬ was → t = { b with cooling := new })
    (∃ t, exec .flowCountdownExpiry s = .next t ∧
      (c.flowCountdown ≠ some 0 → t = s) ∧
      (c.flowCountdown = some 0 → judged s { c with flowCountdown := none, flowCondition := true } t)) ∧
    (∃ t, exec (.coolantSample supply return_) s = .next t ∧
      t.lines = sampled.lines ∧
      judged sampled
        { c with supplyCondition := (code supply).any fun v => decide (s.settings.cooling.supplyLimit < v) } t) ∧
    (∃ t, exec .recoveryCountdownExpiry s = .next t ∧
      (c.recovery ≠ some 0 → t = s) ∧
      (c.recovery = some 0 →
        t = { s with
              cooling := { c with health := .normal, recovery := none }, envelope := t.envelope
              portUnit := t.portUnit } ∧
        PendingEverywhere .cooling t ∧ JournalKept s t ∧ PortsNotified s t)) ∧
    let t := evaluateCooling s
    let o := s.lines.outputs
    let n := t.lines.outputs
    let was := c.flowCondition = true ∨ c.chillerCondition = true ∨ c.supplyCondition = true
    let is := t.cooling.flowCondition = true ∨ t.cooling.chillerCondition = true ∨ t.cooling.supplyCondition = true
    t.cooling.supplyCondition = c.supplyCondition ∧
    (n.pump = o.pump → t.cooling.flowCondition = c.flowCondition ∧ t.cooling.flowCountdown = c.flowCountdown) ∧
    (n.pump ≠ o.pump → s.live .flowOk = true ∨ n.pump = 0 →
      t.cooling.flowCondition = false ∧ t.cooling.flowCountdown = none) ∧
    (n.pump ≠ o.pump → s.live .flowOk = false → n.pump ≠ 0 → t.cooling.flowCondition = c.flowCondition ∧
      t.cooling.flowCountdown =
        if c.flowCondition = false ∧ c.flowCountdown = none then some (1000 * s.settings.cooling.flowTimeout)
        else c.flowCountdown) ∧
    (n.chillerRun = o.chillerRun → t.cooling.chillerCondition = c.chillerCondition) ∧
    (n.chillerRun ≠ o.chillerRun →
      (t.cooling.chillerCondition = true ↔ s.live .chillerFault = true ∧ n.chillerRun = true)) ∧
    (c.health = .normal → ¬ was → (t.cooling.health = .degraded ↔ is) ∧ (is → PendingEverywhere .cooling t)) ∧
    (c.health = .degraded → t.cooling.health = .degraded) ∧
    (c.health = .degraded → was → ¬ is → t.cooling.recovery = some 30000) ∧
    (c.health = .degraded → is → c.recovery = none ∨ ¬ was → t.cooling.recovery = none) ∧
    (¬ was → ¬ is → t.cooling.recovery = c.recovery)

/-- R164 to R167, R106, R113, R135, R156 and R157. What `auxChanged` and `weldAtStart` do stands in
`Obligations.ContactChanged`. That an edge to the level already seen has no effect (log 24), and that a countdown not at
0 does not expire (log 2) are the model's choices. -/
def Obligations.InputDebounced : Prop :=
  ∀ (s : State) (i : Input) (level : Bool),
    let r := s.lines.inputs.get i
    let time := if i = .estop then 5 else s.settings.connection.debounceTime
    let put (new : InputRecord) : State := { s with lines.inputs := s.lines.inputs.set i new }
    let handed (u t : State) : Prop :=
      (i = .negAux → t = auxChanged .neg r.raw u) ∧ (i = .posAux → t = auxChanged .pos r.raw u)
    let delivered (t : State) : Prop :=
      (i = .door ∨ i = .agentReady ∨ i = .damperClosed ∨ (i = .estop ∧ r.raw = false) ∨
          (i = .feederClosed ∧ r.raw = true) →
        t = { s with lines.inputs := t.lines.inputs, portUnit := t.portUnit } ∧ JournalKept s t) ∧
      (i = .estop → r.raw = true →
        t.connection.lastTrip = some ⟨.estop, .severe, none, none, none, s.lines.timeBase⟩ ∧
        (t.connection.state = .opening ∨ t.connection.state = .lockout)) ∧
      (i = .feederClosed → r.raw = false →
        t.connection.lastTrip = some ⟨.feederOpened, .shed, none, none, none, s.lines.timeBase⟩ ∧
        ¬ ClosingOrClosed t) ∧
      (i = .holdSwitch → ∀ z, (t.zone z).state =
        match (s.zone z).state with
        | .countdown => if r.raw || (s.zone z).stationHold then .held else .countdown
        | .held =>
          if r.raw || (s.zone z).stationHold then .held
          else if (s.zone z).countdown = some 0 then .released else .countdown
        | other => other) ∧
      (i = .flowOk → r.raw = true →
        t.cooling.flowCountdown = none ∧ t.cooling.flowCondition = false) ∧
      (i = .flowOk → r.raw = false → t.cooling =
        { s.cooling with
          flowCountdown :=
            if s.lines.outputs.pump = 0 then none
            else if s.cooling.flowCondition = false ∧ s.cooling.flowCountdown = none then
              some (1000 * s.settings.cooling.flowTimeout)
            else s.cooling.flowCountdown
          flowCondition := if s.lines.outputs.pump = 0 then false else s.cooling.flowCondition
          health := t.cooling.health, recovery := t.cooling.recovery }) ∧
      (i = .chillerFault →
        t.cooling.chillerCondition = (r.raw && s.lines.outputs.chillerRun) ∧
        (t.cooling.chillerCondition = true → t.cooling.health = .degraded))
    (r.raw = level → exec (.inputEdge i level) s = .next s) ∧
    (r.raw ≠ level → exec (.inputEdge i level) s = .next (put { r with raw := level, debounce := some time })) ∧
    (r.debounce ≠ some 0 → exec (.debounceExpiry i) s = .next s) ∧
    (r.debounce = some 0 → r.started = true → r.raw = r.live →
      exec (.debounceExpiry i) s = .next (put { r with debounce := none })) ∧
    (r.debounce = some 0 → r.started = false →
      let started : InputRecord := { r with live := r.raw, latched := r.raw, started := true, debounce := none }
      ∃ t, exec (.debounceExpiry i) s = .next t ∧ t.lines.inputs = s.lines.inputs.set i started ∧ PortsNotified s t ∧
        (∀ p, Notice.input.inSet (t.port p).pendingSet = Notice.input.inSet (s.port p).pendingSet) ∧
        (r.raw = r.live → i ≠ .negAux → i ≠ .posAux → t = put started) ∧
        (r.raw = r.live → i = .negAux ∨ i = .posAux → t = weldAtStart (put started)) ∧
        (r.raw ≠ r.live → delivered t ∧ handed (weldAtStart (put started)) t ∧
          (i = .door ∨ i = .agentReady ∨ i = .damperClosed → t = put started))) ∧
    (r.debounce = some 0 → r.started = true → r.raw ≠ r.live →
      let taken : InputRecord :=
        if r.armed then { r with live := r.raw, latched := r.raw, changed := true, armed := false, debounce := none }
        else { r with live := r.raw, debounce := none }
      ∃ t, exec (.debounceExpiry i) s = .next t ∧ t.lines.inputs = s.lines.inputs.set i taken ∧
        handed (if r.armed then raise .input (put taken) else put taken) t ∧
        PortsNotified s t ∧ (r.armed = true → PendingEverywhere .input t) ∧ delivered t ∧
        (r.armed = false → i = .door ∨ i = .agentReady ∨ i = .damperClosed → t.portUnit = s.portUnit))

/-- R98, R100 to R102, R105, R110 to R113, once the live level has been taken. A failed close or a trip whose contacts
both read open ends at once in OPEN. The LOCKOUT record of a weld in OPEN or at the start carries neither marker nor
port (DEDUCED, log 37). Which record a trip leaves is stated with the trips. -/
def Obligations.ContactChanged : Prop :=
  ∀ (s : State) (neg level : Bool),
    let contact : Contactor := if neg then .neg else .pos
    let closer := s.connection.context.map fun c => (⟨c.port, some c.marker⟩ : Origin)
    let auxClosed := s.live .negAux = true ∨ s.live .posAux = true
    let t := auxChanged contact level s
    let sealedIn : Connection :=
      { s.connection with
        state := .lockout, context := none, negConfirmed := none, precharge := none, confirm := none, shed := none
        siteVote := none, stationVote := none }
    let locked (cause : LockoutCause) (c : Contactor) (reason : JournalCause) (u : State) : Prop :=
      u.connection = { sealedIn with lockout := some ⟨cause, none, some c, s.lines.timeBase⟩ } ∧
      Appended [{ kind := .lockout, cause := reason }] s u ∧ PendingEverywhere .connection u
    let failed (f : CloseFailure) : Prop :=
      let broken : Connection :=
        { s.connection with
          state := .opening, negConfirmed := none, precharge := none, shed := none
          confirm := some s.settings.connection.confirmTime
          opening := some ⟨.failure, .failed f, closer, none, none, false⟩ }
      (auxClosed → t.connection = broken ∧
        Appended [{ kind := .closeFailed, cause := .failed f, origin := closer }] s t) ∧
      (¬ auxClosed → t.connection = { broken with state := .opened, context := none, confirm := none } ∧
        Appended
          [{ kind := .closeFailed, cause := .failed f, origin := closer },
            { kind := .opened, cause := .failed f, origin := closer }] s t) ∧
      t.lines.outputs =
        { s.lines.outputs with negMain := false, precharge := false, posMain := false, gridPermissive := false } ∧
      PendingEverywhere .connection t
    let lost : Connection :=
      { s.connection with
        state := .opening, negConfirmed := none, precharge := none, shed := none
        confirm := some s.settings.connection.confirmTime, opening := t.connection.opening
        lastTrip := some ⟨.auxLost, .hard, none, none, some contact, s.lines.timeBase⟩ }
    let difference := ((s.lines.sample.stringVoltage : Int) - s.lines.sample.linkVoltage).natAbs
    t = { s with
          connection := t.connection, lines.outputs := t.lines.outputs, envelope := t.envelope, monitor := t.monitor
          portUnit := t.portUnit } ∧
    (s.connection.state = .opened → level = true → locked .weld contact .weld t) ∧
    (s.connection.state = .opened → level = false → t = s) ∧
    (s.connection.state = .lockout → t = s) ∧
    (s.connection.state = .precharging → s.live .posAux = true → failed .contactorPos) ∧
    (s.connection.state = .precharging → s.live .posAux = false → neg = true → level = true →
      s.connection.negConfirmed = some false → s.settings.connection.prechargeTolerance < difference →
      t = { s with connection := { s.connection with negConfirmed := some true, confirm := none } }) ∧
    (s.connection.state = .precharging → s.live .posAux = false → neg = true → level = true →
      s.connection.negConfirmed = some false → difference ≤ s.settings.connection.prechargeTolerance →
      t.connection =
        { s.connection with
          state := .closing, negConfirmed := none, precharge := none
          confirm := some s.settings.connection.confirmTime } ∧
      t.lines.outputs =
        { s.lines.outputs with negMain := true, precharge := true, posMain := true, gridPermissive := false } ∧
      JournalKept s t) ∧
    (s.connection.state = .precharging → s.live .posAux = false → neg = true → level = false →
      s.connection.negConfirmed = some true → failed .contactorNeg) ∧
    (s.connection.state = .precharging → s.live .posAux = false →
      neg = false ∨ s.connection.negConfirmed = some level → t = s) ∧
    (s.connection.state = .closing → neg = false → level = true →
      t.connection = { s.connection with state := .closed, confirm := none } ∧
      Appended [{ kind := .closed, cause := .close, origin := closer }] s t ∧ PendingEverywhere .connection t ∧
      t.lines.outputs =
        { s.lines.outputs with negMain := true, precharge := false, posMain := true, gridPermissive := true } ∧
      t.monitor =
        { s.monitor with
          monitoring := true, chargeSum := 0, dischargeSum := 0, chargeLimit := t.envelope.charge.effective
          dischargeLimit := t.envelope.discharge.effective }) ∧
    (s.connection.state = .closing → neg = true → level = false → failed .contactorNeg) ∧
    (s.connection.state = .closing → neg = level → t = s) ∧
    (s.connection.state = .closed ∨ s.connection.state = .shedding → level = true → t = s) ∧
    (s.connection.state = .closed ∨ s.connection.state = .shedding → level = false →
      PendingEverywhere .trip t ∧ PendingEverywhere .connection t ∧
      (∃ o, t.connection.opening = some o ∧ o.class_ = .hard ∧ o.cause = .trip .auxLost) ∧
      (auxClosed → t.connection = lost) ∧
      (¬ auxClosed → t.connection = { lost with state := .opened, context := none, confirm := none })) ∧
    (s.connection.state = .opening → auxClosed → t = s) ∧
    (∀ o, s.connection.state = .opening → s.connection.opening = some o → ¬ auxClosed →
      let ended : Entry :=
        { kind := .opened
          cause :=
            if o.shedTimedOut then .shedTimeout
            else match o.cause with
              | .openRequest => .openRequest
              | .failed f => .failed f
              | .trip c => .trip c
          origin := o.origin, zone := o.zone, location := o.location }
      PendingEverywhere .connection t ∧
      (o.class_ ≠ .severe →
        t.connection = { s.connection with state := .opened, context := none, confirm := none } ∧
        Appended [ended] s t) ∧
      (o.class_ = .severe → ∀ c, o.cause = .trip c → c = .zoneAlarm ∨ c = .estop →
        t.connection =
          { sealedIn with
            lockout := some ⟨if c = .zoneAlarm then .zoneAlarm else .estop, o.zone, none, s.lines.timeBase⟩ } ∧
        Appended [ended, { kind := .lockout, cause := .trip c, origin := o.origin, zone := o.zone }] s t)) ∧
    (let u := weldAtStart s
      let bothStarted := (s.lines.inputs.get .negAux).started = true ∧ (s.lines.inputs.get .posAux).started = true
      (s.connection.state = .opened → bothStarted → auxClosed →
        locked .weldAtStart
          (if s.live .negAux = false then .pos else if s.live .posAux = false then .neg else .both) .weldAtStart u) ∧
      (s.connection.state ≠ .opened ∨ ¬ bothStarted ∨ ¬ auxClosed → u = s))

/-- R168, R192 to R195 and R197. The empty payload of OUT_OF_RANGE is the model's choice (log 15). -/
def Obligations.NoticeRequests : Prop :=
  ∀ (s : State) (p : PortId) (w : Word16),
    let only (t : State) : Prop :=
      t.port p =
        { s.port p with
          queue := (t.port p).queue, lost := false, answer := (t.port p).answer, pendingSet := (t.port p).pendingSet
          enabledSet := (t.port p).enabledSet } ∧
      (∀ q, q ≠ p → t.port q = s.port q) ∧ JournalKept s t
    (HandedOver p (.noticeMask p w) s →
      ∃ t, exec (.noticeMask p w) s = .next t ∧
      (1024 ≤ w.toNat → AnsweredOnly p 0x0C .outOfRange [] s t) ∧
      (w.toNat < 1024 →
        AnswerAt p 0x0C .ok (bytes16 w) s t ∧ only t ∧ t = { s with portUnit := t.portUnit } ∧
        (t.port p).pendingSet = (s.port p).pendingSet ∧
        ∀ n : Notice, n.inSet (t.port p).enabledSet = w.getLsbD (n.priority - 1))) ∧
    (HandedOver p (.ack p w) s →
      ∃ t, exec (.ack p w) s = .next t ∧
      (1024 ≤ w.toNat → AnsweredOnly p 0x0D .outOfRange [] s t) ∧
      (w.toNat < 1024 →
        AnswerAt p 0x0D .ok (bytes16 ((t.port p).pendingSet.setWidth 16)) s t ∧ only t ∧
        (t.port p).enabledSet = (s.port p).enabledSet ∧
        (∀ n : Notice,
          n.inSet (t.port p).pendingSet = (n.inSet (s.port p).pendingSet && !w.getLsbD (n.priority - 1))) ∧
        t = { s with lines.inputs := t.lines.inputs, portUnit := t.portUnit } ∧
        (w.getLsbD 8 = false → t.lines.inputs = s.lines.inputs) ∧
        (w.getLsbD 8 = true → ∀ i, t.lines.inputs.get i =
          { s.lines.inputs.get i with latched := (s.lines.inputs.get i).live, changed := false, armed := true }))) ∧
    (∀ e : Entry, let t := append e s
      t = { s with portUnit := t.portUnit } ∧ Appended [e] s t ∧ PendingEverywhere .journal t ∧ PortsNotified s t ∧
      ∀ (q : PortId) (n : Notice),
        n.inSet (t.port q).pendingSet = true ↔ n.inSet (s.port q).pendingSet = true ∨ n = .journal) ∧
    (∀ (r : PortRecord),
      let shown (n : Notice) : Prop := n.inSet r.pendingSet = true ∧ n.inSet r.enabledSet = true
      (r.attention = true ↔ ∃ n, shown n) ∧
      (∀ n, shown n → (∀ m, shown m → n.priority ≤ m.priority) → r.causeByte = n.priority) ∧
      ((∀ n, ¬ shown n) → r.causeByte = 0)) ∧
    [Notice.fire, .trip, .connection, .permit, .envelope, .cell, .ring, .cooling, .input, .journal].map Notice.priority
      = [1, 2, 3, 4, 5, 6, 7, 8, 9, 10]

/-- R47, R81, R118, R144, R160, R175, R190 and R198. The bytes of each record stand in `Obligations.ReadLayouts`. The
empty payload of OUT_OF_RANGE is the model's choice (log 15), and so are the missing count byte before the entries of
READ_CELLS and READ_TEMPS and the records of READ_CHANNELS (log 15) and the threshold in use that READ_ENVELOPE gives
before the next CLOSED period, that of the settings as they stand (log 43). -/
def Obligations.ReadsAnswered : Prop :=
  ∀ (s : State) (p : PortId) (first count : Byte) (start : Word16),
    let image := s.records.image
    let journal := s.portUnit.journal
    let next := s.portUnit.nextSequence
    let lag := (next - (s.port p).cursor).toNat
    let took (missed : Nat) (l : List JournalRecord) (cursor : Word16) (t : State) : Prop :=
      AnswerAt p 0x0B .ok (f2 missed ++ byteOf l.length :: l.flatMap JournalRecord.field) s t ∧
      t = setPort p
        { s.port p with
          queue := (t.port p).queue, lost := (t.port p).lost, answer := (t.port p).answer, cursor := cursor } s
    (HandedOver p (.readState p) s →
      ∃ t, exec (.readState p) s = .next t ∧ AnsweredOnly p 0x01 .ok (stateAnswer s).payload s t) ∧
    (HandedOver p (.readNodes p first count) s →
      ∃ t, exec (.readNodes p first count) s = .next t ∧
      (first.toNat ≤ 23 → count = 0 → AnsweredOnly p 0x02 .ok (ringField s.ring) s t) ∧
      (first.toNat ≤ 23 → 1 ≤ count.toNat → count.toNat ≤ 8 →
        AnsweredOnly p 0x02 .ok
          (ringField s.ring ++ counted (dirField s) (s.ring.directory.filter fun e =>
            decide (first.toNat ≤ e.address) && decide (e.address < first.toNat + count.toNat))) s t) ∧
      (23 < first.toNat ∨ 8 < count.toNat → AnsweredOnly p 0x02 .outOfRange [] s t)) ∧
    (HandedOver p (.readCells p start count) s →
      ∃ t, exec (.readCells p start count) s = .next t ∧
      (1 ≤ count.toNat → count.toNat ≤ 12 → start.toNat + count.toNat ≤ image.cells.length →
        AnsweredOnly p 0x03 .ok
          (bytes32 image.cycle ++ ((image.cells.drop start.toNat).take count.toNat).flatMap Cell.field) s t) ∧
      (count = 0 ∨ 12 < count.toNat ∨ image.cells.length < start.toNat + count.toNat →
        AnsweredOnly p 0x03 .outOfRange [] s t)) ∧
    (HandedOver p (.readTemps p start count) s →
      ∃ t, exec (.readTemps p start count) s = .next t ∧
      (1 ≤ count.toNat → count.toNat ≤ 12 → start.toNat + count.toNat ≤ image.sensors.length →
        AnsweredOnly p 0x04 .ok
          (bytes32 image.cycle ++ ((image.sensors.drop start.toNat).take count.toNat).flatMap Sensor.field) s t) ∧
      (count = 0 ∨ 12 < count.toNat ∨ image.sensors.length < start.toNat + count.toNat →
        AnsweredOnly p 0x04 .outOfRange [] s t)) ∧
    (HandedOver p (.readEnvelope p) s →
      ∃ t, exec (.readEnvelope p) s = .next t ∧
      AnsweredOnly p 0x05 .ok (envelopeField s.envelope ++ monitorField s.settings.envelope s.monitor) s t) ∧
    (HandedOver p (.readConnection p) s →
      ∃ t, exec (.readConnection p) s = .next t ∧ AnsweredOnly p 0x06 .ok (connectionAnswer s).payload s t) ∧
    (HandedOver p (.readZones p) s →
      ∃ t, exec (.readZones p) s = .next t ∧ AnsweredOnly p 0x07 .ok (zonesAnswer s).payload s t) ∧
    (HandedOver p (.readChannels p first count) s →
      ∃ t, exec (.readChannels p first count) s = .next t ∧
      (1 ≤ count.toNat → count.toNat ≤ 8 → first.toNat + count.toNat ≤ s.zones.channels.length →
        AnsweredOnly p 0x08 .ok (((s.zones.channels.drop first.toNat).take count.toNat).flatMap Channel.field) s t) ∧
      (count = 0 ∨ 8 < count.toNat ∨ s.zones.channels.length < first.toNat + count.toNat →
        AnsweredOnly p 0x08 .outOfRange [] s t)) ∧
    (HandedOver p (.readInputs p) s →
      ∃ t, exec (.readInputs p) s = .next t ∧ AnsweredOnly p 0x09 .ok (inputsAnswer s).payload s t) ∧
    (HandedOver p (.readCooling p) s →
      ∃ t, exec (.readCooling p) s = .next t ∧ AnsweredOnly p 0x0A .ok (coolingAnswer s).payload s t) ∧
    (HandedOver p (.readJournal p) s →
      ∃ t, exec (.readJournal p) s = .next t ∧
      (lag = 0 → AnsweredOnly p 0x0B .ok [0x00, 0x00, 0x00] s t) ∧
      (1 ≤ lag → lag ≤ journal.length →
        let l := (journal.drop (journal.length - lag)).take 2
        took 0 l ((s.port p).cursor + BitVec.ofNat 16 l.length) t) ∧
      (journal.length < lag →
        took (lag - journal.length) (journal.take 2)
          (next - BitVec.ofNat 16 journal.length + BitVec.ofNat 16 (journal.take 2).length) t))

/-- R190 and R196, with the tables of R5, R12, R45, R47, R51, R62, R82, R88, R89, R93, R118, R120, R130, R144, R146,
R153, R160, R175 and R176. The order where a rule gives no table and the places of the last trip (log 15), the positions
of two-way lists and the flags of switched values (log 16), the hold in whole seconds (log 17), the code of a none
temperature (log 7) and the threshold in use between a write of the excess budget and the next CLOSED period (log 43) are
the model's choices. -/
def Obligations.ReadLayouts : Prop :=
  ∀ s : State,
    let c := s.connection
    let e := s.envelope
    let m := s.monitor
    let r := s.ring
    let o := s.lines.outputs
    let k := s.cooling
    let ringStates : List RingState := [.enumerating, .closed, .split, .severed]
    let connStates : List ConnState := [.opened, .precharging, .closing, .closed, .shedding, .opening, .lockout]
    let modes : List CoolingMode := [.idle, .cool, .heat, .exhaust, .seal, .purge, .override]
    let ports : List PortId := [.site, .converter, .station]
    let contactors : List Contactor := [.neg, .pos, .both]
    let zones : List Zone := [.z1, .z2, .z3, .z4]
    let kinds : List JournalKind :=
      [.closed, .closeFailed, .opened, .trip, .lockout, .lockoutCleared, .zoneState, .agentRelease, .opState, .ringState]
    let trips : List TripCause :=
      [.energyWithdrawn, .gridWithdrawn, .gridLapsed, .feederOpened, .cellOver, .cellUnder, .cellOverTemp, .cellLost,
        .ringSevered, .overcurrent, .auxLost, .remoteTrip, .zoneAlarm, .estop]
    let checks : List RunCheck :=
      [.ringNotReady, .nodeMap, .cellNotSeen, .chargeTaper, .dischargeKnee, .tripLevels, .tableOrder, .freshnessOrder,
        .staleBelowRotation, .dormantStale, .periodShort, .thermalBands]
    let reasons : List Reason :=
      [.voltage, .temperature, .capStale, .capCooling, .capDisagree, .capZone, .ramp, .zeroed]
    let byte (n : Nat) : List Byte := [BitVec.ofNat 8 n]
    let temperature (v : Option Int) : List Byte :=
      match v with
      | some t => signed t
      | none => two noneTemperatureCode.toNat
    let voltage (v : Option Nat) : List Byte := two (v.getD 65535)
    let conditions (write : Nat → List Byte) (n : ConditionCounts) : List Byte :=
      write n.noneYet ++ write n.fresh ++ write n.stale ++ write n.lost
    let zoneOf (z : Option Zone) : List Byte := may 1 (fun z => [place zones z]) z
    let location (l : Location) : List Byte :=
      match l with
      | .cell n => 1 :: two n
      | .sensor n => 2 :: two n
      | .channel n => 3 :: two n
      | .node n => 4 :: two n
    let origin (x : Origin) : List Byte := [x.marker.getD 0, place ports x.port]
    let cause (x : JournalCause) : Byte :=
      match x with
      | .trip t => place trips t
      | .close => 0x10
      | .failed .contactorNeg => 0x11
      | .failed .contactorPos => 0x12
      | .failed .prechargeTimeout => 0x13
      | .openRequest => 0x14
      | .shedTimeout => 0x15
      | .weld => 0x18
      | .weldAtStart => 0x19
      | .zone z =>
        0x1F + place [ZoneState.normal, .preAlarm, .alarm, .countdown, .held, .aborted, .released] z
      | .damperOpen => 0x27
      | .opState u => 0x2F + place [OpState.setup, .run, .dormant] u
      | .restart => 0x33
      | .ring u => 0x37 + place ringStates u
    let driven : List Byte :=
      byte o.rackFans ++ byte o.pump ++ byte o.exhaust ++ byte o.condenser ++
        [bit o.chillerRun, bit o.heater, bit o.dampersOpen]
    let summary : List Byte :=
      let i := s.records.image
      four i.cycle.toNat ++ four i.stamp.toNat ++ [place ringStates i.ringState] ++ two i.summary.populatedCells ++
        byte i.summary.populatedSensors ++ conditions two i.summary.cells ++ conditions byte i.summary.sensors ++
        [bit i.summary.anyStale, bit i.summary.anyLost, bit i.summary.anyDisagree, bit i.summary.sumMismatch,
          bit i.summary.anyLimit] ++
        byte i.summary.thermalNodes.length ++ i.summary.thermalNodes.map (BitVec.ofNat 8)
    let window (w : Window) : List Byte :=
      [place [WatchMode.auto, .fixed] w.mode] ++ may 1 byte w.chosen ++ may 1 byte w.current
    (stateAnswer s = ⟨.ok,
      [place [OpState.setup, .run, .dormant] s.stateUnit.state, bit s.stateUnit.sleepPending,
          bit s.stateUnit.wakePending] ++
        may 1 (fun x => [place checks x]) s.stateUnit.lastRefusal ++ summary ++ two e.charge.effective ++
        two e.discharge.effective ++ two e.generation.toNat ++
        [bit e.zeroed, place connStates c.state, place [EnergyPermit.withdrawn, .granted] c.permit.energy,
          place [GridPermit.lapsed, .valid, .withdrawn] c.permit.grid, place modes k.mode,
          place [Health.normal, .degraded] k.health] ++
        byte (s.port .site).dropped ++ byte (s.port .converter).dropped ++ byte (s.port .station).dropped ++
        four s.lines.timeBase.toNat⟩) ∧
    (ringField r =
      [place ringStates r.state] ++
        may 1 (fun x => [place [EnumResult.ok, .openRing, .corrupt, .tooMany, .badDescriptor] x]) r.lastResult ++
        [bit r.enumeratePending] ++ byte r.overruns ++ [bit r.tokenLost, bit r.nodeAnswered] ++ window r.windowA ++
        window r.windowB ++ may 1 byte r.rotation) ∧
    (∀ d : DirEntry,
      let rest : List Byte :=
        zoneOf d.zone ++ [place [Direction.out, .ret, .unknown] d.direction] ++ byte d.failures ++ byte d.crcErrors ++
          byte d.timeouts ++ may 2 (fun x : Word16 => two x.toNat) d.lastCounter ++
          may 3 (fun x : NodeStatus => bit x.converterFault :: two x.bleedActive.toNat) d.status
      (∀ n, d.kind = .dtn n → dirField s { d with kind := .dtn n } =
        byte d.address ++ [2] ++ byte n ++ rest ++ masksField s d) ∧
      (∀ cells sensors, d.kind = .csn cells sensors → dirField s d =
        byte d.address ++ [1] ++ byte cells ++ byte sensors ++ rest ++ masksField s d) ∧
      (nodeSpan r.directory d.address = none → masksField s d = []) ∧
      ∀ p, nodeSpan r.directory d.address = some p → p.cells ≤ 16 → p.firstCell + p.cells ≤ s.balance.length →
        ∃ granted suspended : Word16, masksField s d = two granted.toNat ++ two suspended.toNat ∧
          ∀ j x, j < p.cells → s.balance[p.firstCell + j]? = some x →
            (granted.getLsbD j = true ↔ x.state = .active) ∧ (suspended.getLsbD j = true ↔ x.state = .suspended)) ∧
    (∀ x : Cell, x.field =
      [place [true, false] x.populated, bit x.masked,
          place [Condition.noneYet, .fresh, .stale, .lost] x.condition] ++
        voltage x.primary ++ voltage x.secondary ++ may 2 two x.filtered ++ byte x.age ++
        [bit x.disagree, place [LimitFlag.noFlag, .over, .under] x.limit]) ∧
    (∀ x : Sensor, x.field =
      [place [true, false] x.populated, bit x.masked,
          place [Condition.noneYet, .fresh, .stale, .lost] x.condition] ++
        temperature x.reading ++ may 2 signed x.reference ++ may 2 signed x.lastRise ++ byte x.age ++
        [bit x.overTemp, bit x.thermalEvent]) ∧
    ¬ (-400 ≤ noneTemperatureCode.toInt ∧ noneTemperatureCode.toInt ≤ 1250) ∧
    (envelopeField e =
      [place [true, false] e.full] ++ four e.cycle.toNat ++ four e.stamp.toNat ++ may 2 two e.vmax ++
        may 2 two e.vmin ++ may 2 signed e.tmax ++ may 2 signed e.tmin ++ two e.charge.voltageFactor ++
        two e.discharge.voltageFactor ++ two e.charge.temperatureFactor ++ two e.discharge.temperatureFactor ++
        two e.charge.cap ++ two e.discharge.cap ++
        [bit e.caps.stale + 2 * bit e.caps.cooling + 4 * bit e.caps.disagree + 8 * bit e.caps.zone] ++
        two e.charge.target ++ two e.discharge.target ++ two e.charge.stored ++ two e.discharge.stored ++
        two e.charge.effective ++ two e.discharge.effective ++ [bit e.zeroed] ++ two e.generation.toNat ++
        [place reasons e.charge.reason, place reasons e.discharge.reason]) ∧
    (monitorField s.settings.envelope m =
      [bit m.monitoring] ++ two m.chargeLimit ++ two m.dischargeLimit ++ four m.chargeSum ++ four m.dischargeSum ++
        four (1000 * s.settings.envelope.excessBudget) ++
        may 15 (fun x : Overcurrent =>
          [place [FlowDirection.charge, .discharge] x.direction] ++ four x.sum.toNat ++ two x.effective ++ two x.limit ++
            signed x.current ++ four x.stamp.toNat) m.overcurrent) ∧
    (connectionAnswer s = ⟨.ok,
      [place connStates c.state] ++ may 2 (fun x : CloseContext => [x.marker, place ports x.port]) c.context ++
        may 1 (fun x => [bit x]) c.negConfirmed ++ may 4 four c.precharge ++ may 4 four c.confirm ++ may 4 four c.shed ++
        may 12 (fun x : Opening =>
          [place [OpeningClass.request, .failure, .shed, .hard, .severe] x.class_, cause x.cause.journal] ++
            may 2 origin x.origin ++ zoneOf x.zone ++ may 3 location x.location ++ [bit x.shedTimedOut]) c.opening ++
        may 9 (fun x : Lockout =>
          [place [LockoutCause.weld, .weldAtStart, .zoneAlarm, .estop] x.cause] ++ zoneOf x.zone ++
            may 1 (fun y => [place contactors y]) x.contactor ++ four x.stamp.toNat) c.lockout ++
        may 4 four c.siteVote ++ may 4 four c.stationVote ++
        may 14 (fun x : LastTrip =>
          [place trips x.cause, place [OpeningClass.request, .failure, .shed, .hard, .severe] x.class_] ++
            may 3 location x.location ++ zoneOf x.zone ++ may 1 (fun y => [place contactors y]) x.contactor ++
            four x.stamp.toNat) c.lastTrip ++
        [place [EnergyPermit.withdrawn, .granted] c.permit.energy,
          place [GridPermit.lapsed, .valid, .withdrawn] c.permit.grid] ++
        may 2 (fun ms => two (ms / 1000)) c.permit.holdRemaining ++ may 2 two c.permit.holdGranted ++
        [bit (s.live .negAux), bit (s.live .posAux), bit (s.live .feederClosed), bit (s.live .estop),
          bit (s.live .door)] ++
        two s.lines.sample.stringVoltage ++ two s.lines.sample.linkVoltage ++ [bit s.lines.sample.saturated]⟩) ∧
    (∀ z : Zone, let x := s.zone z
      zoneField s z =
        [place [ZoneState.normal, .preAlarm, .alarm, .countdown, .held, .aborted, .released] x.state,
            place [true, false] (s.settings.fire.arming.get z), bit x.degraded, bit x.blind, bit x.thermal,
            bit x.stationHold] ++
          may 4 four x.countdown ++ may 4 four x.clearCountdown ++ may 4 four x.singleSource ++ [bit (o.agent.get z)] ++
          may 4 four x.releasedFor ++
          may 5 (fun y : Release => four y.stamp.toNat ++ [place [true, false] y.damperClosed]) x.lastRelease) ∧
    (zonesAnswer s = ⟨.ok,
      zones.flatMap (zoneField s) ++ [bit (s.live .holdSwitch), bit (s.live .agentReady), bit (s.live .damperClosed)] ++
        zones.flatMap fun z =>
          let l := s.zones.channels.filter fun x => x.zone == some z
          byte (l.countP (·.fault.isNone)) ++ byte (l.countP (·.fault.isSome)) ++ byte (l.countP (·.level = .quiet)) ++
            byte (l.countP (·.level = .warn)) ++ byte (l.countP (·.level = .alarm)) ++
            byte (l.countP (·.level = .call))⟩) ∧
    (∀ x : Channel, x.field =
      byte x.node ++ byte x.position ++
        may 1 (fun y => [place [ChannelKind.offgas, .heat, .smoke, .manual] y]) x.kind ++
        [place [some Zone.z1, some .z2, some .z3, some .z4, none] x.zone] ++ may 2 signed x.value ++
        [place [true, false] x.fault.isNone] ++
        may 1 (fun y => [place [FaultReason.noAnswerYet, .flag, .badKind, .badValue, .nodeFailed] y]) x.fault ++
        [place [Level.quiet, .warn, .alarm, .call] x.level] ++
        may 1 (fun y => [if y = .warn then 1 else if y = .alarm then 2 else 3]) x.candidate ++ byte x.run ++
        may 2 signed x.reference ++ four x.referenceAge ++ may 2 signed x.lastRise) ∧
    (inputsAnswer s = ⟨.ok,
      [Input.negAux, .posAux, .estop, .feederClosed, .door, .holdSwitch, .agentReady, .flowOk, .chillerFault,
          .damperClosed].flatMap (fun i =>
            let x := s.lines.inputs.get i
            [bit x.live, bit x.latched, bit x.changed, bit x.started]) ++
        signed s.lines.sample.current ++ two s.lines.sample.stringVoltage ++ two s.lines.sample.linkVoltage ++
        [bit s.lines.sample.saturated] ++
        may 4 (fun x : CoolantSample => temperature x.supply ++ temperature x.return_) s.lines.coolant ++
        [bit o.negMain, bit o.posMain, bit o.precharge, bit o.gridPermissive, bit o.agent.z1, bit o.agent.z2,
          bit o.agent.z3, bit o.agent.z4] ++
        driven ++ four s.lines.timeBase.toNat⟩) ∧
    (coolingAnswer s = ⟨.ok,
      [place modes k.mode] ++ four k.modeEntered.toNat ++ may 2 signed k.tmax ++ may 2 signed k.tmin ++
        [bit k.heatRequest, bit k.coolRequest, bit k.purgeLatch] ++ byte k.demand ++ driven ++
        may 12 (fun x : Override =>
          byte x.rackFans ++ byte x.pump ++ byte x.exhaust ++ byte x.condenser ++
            [bit x.chiller, bit x.heater, bit x.dampers] ++ byte x.duration ++ four x.remaining) k.override ++
        [place [Health.normal, .degraded] k.health, bit k.flowCondition, bit k.chillerCondition,
          bit k.supplyCondition] ++
        may 4 four k.flowCountdown ++ may 4 four k.recovery ++
        [bit (s.live .flowOk), bit (s.live .chillerFault), bit (s.live .damperClosed)] ++
        temperature (s.lines.coolant.bind (·.supply)) ++ temperature (s.lines.coolant.bind (·.return_))⟩) ∧
    ∀ x : JournalRecord,
      x.field.length = 19 ∧
      x.field =
        two x.sequence.toNat ++ four x.stamp.toNat ++ [place kinds x.kind, cause x.cause] ++
          [bit x.origin.isSome + 2 * bit x.zone.isSome + 4 * bit x.location.isSome] ++
          (x.origin.map origin).getD [0, 0] ++ ((x.zone.map fun z => [place zones z]).getD [0]) ++
          (x.location.map location).getD [0, 0, 0] ++ signed x.current ++ two x.voltage

/-- R183, R186 to R189 and R191, with the receiver in HUNT. `portCheckOf` makes the three checks of R188. That a request
command stands for its request being handed over, and that an unknown code and a passing request wait for their own
command (log 3), and that a RESTART taken is a command of its own (log 23), are the model's choices. -/
def Obligations.PortQueue : Prop :=
  let mayAll (q : Request) : Prop := 0x01 ≤ q.code.toNat ∧ q.code.toNat ≤ 0x0D
  let siteOnly (q : Request) : Prop := 0x20 ≤ q.code.toNat ∧ q.code.toNat ≤ 0x2B
  let lockout (q : Request) : Prop := q.code = 0x30
  let converterOnly (q : Request) : Prop := q.code = 0x40 ∨ q.code = 0x41
  let stationOnly (q : Request) : Prop := 0x50 ≤ q.code.toNat ∧ q.code.toNat ≤ 0x55
  let known (q : Request) : Prop := mayAll q ∨ siteOnly q ∨ lockout q ∨ converterOnly q ∨ stationOnly q
  let may (p : PortId) (q : Request) : Prop :=
    mayAll q ∨ (p = .site ∧ (siteOnly q ∨ lockout q)) ∨ (p = .converter ∧ converterOnly q) ∨
      (p = .station ∧ (lockout q ∨ stationOnly q))
  let lengths (q : Request) : List Nat :=
    let n := q.code.toNat
    if n ∈ [0x02, 0x08, 0x0C, 0x0D] then [2]
    else if n ∈ [0x03, 0x04, 0x28, 0x50] then [3]
    else if n = 0x20 then [6, 7, 9]
    else if n = 0x27 then [5]
    else if n = 0x29 then [1 + 4 * (q.payload.headD 0).toNat]
    else if n = 0x2A then [9]
    else if n ∈ [0x2B, 0x40, 0x41, 0x51, 0x52, 0x53, 0x54, 0x55] then [1]
    else [0]
  (∀ (p : PortId) (q : Request),
    (¬ known q → portCheckOf p q = some .unknownRequest) ∧
    (known q → ¬ may p q → portCheckOf p q = some .notPermitted) ∧
    (may p q → q.payload.length ∉ lengths q → portCheckOf p q = some .badLength) ∧
    (may p q → q.payload.length ∈ lengths q → portCheckOf p q = none)) ∧
  (∀ (s : State) (c : Instr) (p : PortId) (q : Request), requestOf c = some (p, q) →
    let r := s.port p
    let others (t : State) : Prop := ∀ o, o ≠ p → t.port o = { s.port o with pendingSet := (t.port o).pendingSet }
    (c = .unknownRequest p q.code q.payload → ¬ known q) →
    (HandedOver p c s →
      (∃ t a, exec c s = .next t ∧ (t.port p).answer = some a ∧ a.code = q.code ∧ a.lost = r.lost ∧
        a.cause = (t.port p).causeByte ∧ (t.port p).lost = false ∧ others t ∧
        (t.port p).queue = if r.queue = [] then [q] else r.queue) ∧
      (¬ known q → ∃ t, exec c s = .next t ∧ AnsweredOnly p q.code .unknownRequest [] s t) ∧
      (known q → ¬ may p q → ∃ t, exec c s = .next t ∧ AnsweredOnly p q.code .notPermitted [] s t) ∧
      (may p q → q.payload.length ∉ lengths q →
        ∃ t, exec c s = .next t ∧ AnsweredOnly p q.code .badLength [] s t)) ∧
    (¬ HandedOver p c s →
      (2 ≤ r.queue.length → exec c s = .next (setPort p { r with lost := true } s)) ∧
      (r.queue.length < 2 → r.answer ≠ none ∨
          (∀ h ∈ r.queue.head?, portCheckOf p h = none ∨ portCheckOf p h = some .unknownRequest) →
        exec c s = .next (setPort p { r with queue := r.queue ++ [q] } s)))) ∧
  (∀ (s : State) (p : PortId),
    let r := s.port p
    let rest := r.queue.tail
    ((s.port p).answer = none → exec (.answerSent p) s = .next s) ∧
    ∀ a, r.answer = some a → ∃ t, exec (.answerSent p) s = .next t ∧
      (t.port p).queue = rest ∧
      t.portUnit = { s.portUnit with ports := s.portUnit.ports.set p (t.port p) } ∧
      t = { s with portUnit := t.portUnit, stateUnit.restart := t.stateUnit.restart } ∧
      (p = .site → s.stateUnit.restart = .answered → a.code = 0x26 → a.status = .ok →
        t.stateUnit.restart = .due) ∧
      (p ≠ .site ∨ s.stateUnit.restart ≠ .answered ∨ a.code ≠ 0x26 ∨ a.status ≠ .ok →
        t.stateUnit = s.stateUnit) ∧
      (rest = [] → (t.port p).answer = none) ∧
      (∀ head more, rest = head :: more → portCheckOf p head = none ∨ portCheckOf p head = some .unknownRequest →
        (t.port p).answer = none ∧ (t.port p).lost = r.lost) ∧
      ∀ head more st, rest = head :: more → portCheckOf p head = some st → st ≠ .unknownRequest →
        (t.port p).answer = some ⟨head.code, st, r.causeByte, r.lost, []⟩ ∧ (t.port p).lost = false) ∧
  ∀ (s : State) (p : PortId) (noise : List Byte) (q : Request),
    (s.port p).rx = none → 0xA5 ∉ noise → q.payload.length ≤ 63 →
    let r := s.port p
    let hunting : PortRecord := { r with rx := none, gap := none }
    let dropped : PortRecord := { hunting with dropped := min 255 (r.dropped + 1) }
    let start := noise ++ [0xA5]
    let frame := start ++ q.covered ++ bytes16 (portCheck q.covered)
    let next := r.queue ++ [q]
    (r.queue.length < 2 → r.answer ≠ none ∨
        (∀ h ∈ next.head?, portCheckOf p h = none ∨ portCheckOf p h = some .unknownRequest) →
      exec (.portFrameReceived p frame) s = .next (setPort p { hunting with queue := next } s)) ∧
    (∀ h st, r.queue.length < 2 → r.answer = none → next.head? = some h → portCheckOf p h = some st →
      st ≠ .unknownRequest →
      exec (.portFrameReceived p frame) s = .next (setPort p
        { hunting with queue := next, answer := some ⟨h.code, st, r.causeByte, r.lost, []⟩, lost := false } s)) ∧
    (2 ≤ r.queue.length → exec (.portFrameReceived p frame) s = .next (setPort p { hunting with lost := true } s)) ∧
    (∀ check : List Byte, check.length = 2 → check ≠ bytes16 (portCheck q.covered) →
      exec (.portFrameReceived p (start ++ q.covered ++ check)) s = .next (setPort p dropped s)) ∧
    (∀ len : Byte, len = 0 ∨ 64 < len.toNat →
      exec (.portFrameReceived p (start ++ [len])) s = .next (setPort p dropped s)) ∧
    (∀ l : List Byte, l <+: q.covered →
      exec (.portGapTimeout p (start ++ l)) s = .next (setPort p dropped s)) ∧
    exec (.portGapTimeout p frame) s = exec (.portFrameReceived p frame) s

/-- R176 to R178, with the codes of R188. The empty payloads of ALREADY and WRONG_STATE are the model's choice (log 15).
-/
def Obligations.EnterRunRequest : Prop :=
  ∀ s : State, HandedOver .site (.enterRun .site) s →
    let c := s.settings.cell
    let e := s.settings.envelope
    let k := s.settings.cooling
    let csns := (s.ring.directory.filter fun d => d.kind.isCsn).length
    let dtns := (s.ring.directory.filter fun d => !d.kind.isCsn).length
    let slots := s.settings.ring.rotationSlots
    let mismatch (a : Nat) : Prop :=
      (s.ring.directory.find? fun d => d.address == a).map (·.kind) ≠ (s.settings.map.nodes[a]?).join
    let unseen (n : Nat) : Prop := ∃ x, s.records.cells[n]? = some x ∧ x.populated = true ∧ x.masked = false ∧
      x.condition = .noneYet
    let checks : List (RunCheck × Prop) :=
      [ (.ringNotReady,
          s.ring.state ≠ .closed ∨ s.ring.lastResult ≠ some .ok ∨ s.ring.enumeratePending = true),
        (.nodeMap, ∃ a, a < 24 ∧ mismatch a),
        (.cellNotSeen, ∃ n, unseen n),
        (.chargeTaper, e.vceil < e.vtaper + 100),
        (.dischargeKnee, e.vknee < e.vfloor + 100),
        (.tripLevels, c.ovTrip < e.vceil ∨ e.vfloor < c.uvTrip),
        (.tableOrder, ¬ (e.derating.map (·.temperature)).Pairwise (· < ·)),
        (.freshnessOrder, c.lostLimit ≤ c.staleLimit ∨ c.dormantLost ≤ c.dormantStale),
        (.staleBelowRotation, c.staleLimit ≤ (csns + slots - 1) / slots),
        (.dormantStale, c.dormantStale ≤ csns),
        (.periodShort, s.settings.ring.period < 4 * (3 + dtns + slots)),
        (.thermalBands, k.heatOff ≤ k.heatOn ∨ k.coolOn ≤ k.coolOff) ]
    ∃ t, exec (.enterRun .site) s = .next t ∧
      (s.stateUnit.state = .run → AnsweredOnly .site 0x21 .already [] s t) ∧
      (s.stateUnit.state = .dormant → AnsweredOnly .site 0x21 .wrongState [] s t) ∧
      (s.stateUnit.state = .setup → ∀ (i : Nat) (name : RunCheck) (fails : Prop), checks[i]? = some (name, fails) →
        fails → (∀ (j : Nat) (earlier : RunCheck × Prop), j < i → checks[j]? = some earlier → ¬ earlier.2) →
        ∃ detail, AnswerAt .site 0x21 .refused (byteOf (0x21 + i) :: detail) s t ∧
          OnlyAnswered .site { s with stateUnit.lastRefusal := some name } t ∧
          (name ≠ .nodeMap → name ≠ .cellNotSeen → detail = []) ∧
          (name = .nodeMap → ∃ a, mismatch a ∧ (∀ b, b < a → ¬ mismatch b) ∧ detail = [byteOf a]) ∧
          (name = .cellNotSeen → ∃ n, unseen n ∧ (∀ m, m < n → ¬ unseen m) ∧ detail = f2 n)) ∧
      (s.stateUnit.state = .setup → (∀ x ∈ checks, ¬ x.2) →
        AnswerAt .site 0x21 .ok [0x02] s t ∧ PortsAnswered .site s t ∧
        Appended [{ kind := .opState, cause := .opState .run, origin := some ⟨.site, none⟩ }] s t ∧
        t.envelope = (capInputChanged { s with stateUnit.state := .run }).envelope ∧ t.envelope.full = false ∧
        t = { s with
              stateUnit := { s.stateUnit with state := .run }, envelope := t.envelope, portUnit := t.portUnit })

/-- R179 to R184 with R8, R9, R16, R17 and R176. At rest is OPEN or LOCKOUT. A wake that finds no cycle in flight starts
one at once, under RUN. The slot in the place of a NONE window (log 9), the countdown and the overrun count at a wake
(log 12), the empty payloads (log 15), the stage of a RESTART (log 23) and an OP_STATE record without port at a wake
(log 41) are the model's choices. -/
def Obligations.OperatingRequests : Prop :=
  ∀ s : State,
    let u := s.stateUnit
    let atRest := s.connection.state = .opened ∨ s.connection.state = .lockout
    let opState (o : OpState) (by_ : Option Origin) : Entry := { kind := .opState, cause := .opState o, origin := by_ }
    let computed (t : State) : Prop :=
      t.envelope = (capInputChanged { s with stateUnit := t.stateUnit }).envelope ∧ t.envelope.full = false
    let onBoundary (t : State) : Prop :=
      t.ring.countdown = s.settings.ring.period ∧
      (s.ring.state ≠ .enumerating → s.ring.cycle ≠ none →
        t.ring =
          { s.ring with
            countdown := s.settings.ring.period, overruns := min 255 (s.ring.overruns + 1), startPending := true }) ∧
      (s.ring.state ≠ .enumerating → s.ring.cycle = none → t.ring.cycle = some ⟨cycleSlots false s, [], false⟩)
    (HandedOver .site (.enterSetup .site) s → ∃ t, exec (.enterSetup .site) s = .next t ∧
      (u.state = .setup → AnsweredOnly .site 0x22 .already [] s t) ∧
      (u.state = .run → ¬ atRest → AnsweredOnly .site 0x22 .wrongState [] s t) ∧
      (u.state = .run → atRest →
        AnswerAt .site 0x22 .ok [] s t ∧ PortsAnswered .site s t ∧
        Appended [opState .setup (some ⟨.site, none⟩)] s t ∧ t.balance.length = s.balance.length ∧
        (∀ b ∈ t.balance, b = ⟨.idle, 0⟩) ∧ computed t ∧
        t = { s with
              stateUnit := { u with state := .setup, sleepPending := false }, balance := t.balance
              envelope := t.envelope, portUnit := t.portUnit }) ∧
      (u.state = .dormant →
        AnswerAt .site 0x22 .ok [] s t ∧ PortsAnswered .site s t ∧
        Appended [opState .setup (some ⟨.site, none⟩)] s t ∧ onBoundary t ∧ computed t ∧
        t = { s with
              stateUnit := { u with state := .setup, wakePending := false }, ring := t.ring, envelope := t.envelope
              portUnit := t.portUnit })) ∧
    (HandedOver .site (.sleep .site) s → ∃ t, exec (.sleep .site) s = .next t ∧
      (u.state = .setup → AnsweredOnly .site 0x24 .wrongState [] s t) ∧
      (u.state = .dormant ∨ (u.state = .run ∧ u.sleepPending = true) → AnsweredOnly .site 0x24 .already [] s t) ∧
      (u.state = .run → u.sleepPending = false → ¬ atRest → AnsweredOnly .site 0x24 .wrongState [] s t) ∧
      (u.state = .run → u.sleepPending = false → atRest →
        AnswerAt .site 0x24 .ok [] s t ∧ OnlyAnswered .site { s with stateUnit.sleepPending := true } t)) ∧
    (HandedOver .site (.wake .site) s → ∃ t, exec (.wake .site) s = .next t ∧
      (u.state = .setup → AnsweredOnly .site 0x25 .wrongState [] s t) ∧
      (u.state = .run → u.sleepPending = false → AnsweredOnly .site 0x25 .already [] s t) ∧
      (u.state = .dormant → u.wakePending = true → AnsweredOnly .site 0x25 .already [] s t) ∧
      (u.state = .run → u.sleepPending = true →
        AnswerAt .site 0x25 .ok [] s t ∧ OnlyAnswered .site { s with stateUnit.sleepPending := false } t) ∧
      (u.state = .dormant → u.wakePending = false →
        AnswerAt .site 0x25 .ok [] s t ∧ PortsAnswered .site s t ∧ onBoundary t ∧
        (s.ring.cycle ≠ none → s.ring.state ≠ .enumerating →
          t.stateUnit = { u with wakePending := true } ∧ t.envelope = s.envelope ∧ JournalKept s t) ∧
        (s.ring.cycle = none → s.ring.state ≠ .enumerating →
          t.stateUnit = { u with state := .run } ∧ Appended [opState .run none] s t ∧ computed t) ∧
        t = { s with stateUnit := t.stateUnit, ring := t.ring, envelope := t.envelope, portUnit := t.portUnit })) ∧
    (HandedOver .site (.enumerate .site) s → ∃ t, exec (.enumerate .site) s = .next t ∧
      (u.state ≠ .setup → AnsweredOnly .site 0x23 .wrongState [] s t) ∧
      (u.state = .setup → s.ring.state = .enumerating → AnsweredOnly .site 0x23 .already [] s t) ∧
      (u.state = .setup → s.ring.state ≠ .enumerating → s.ring.cycle ≠ none →
        AnswerAt .site 0x23 .ok [] s t ∧ OnlyAnswered .site { s with ring.enumeratePending := true } t) ∧
      (u.state = .setup → s.ring.state ≠ .enumerating → s.ring.cycle = none →
        AnswerAt .site 0x23 .ok [] s t ∧ PortsAnswered .site s t ∧ PendingEverywhere .ring t ∧
        Appended [{ kind := .ringState, cause := .ring .enumerating }] s t ∧
        t.envelope = (capInputChanged { s with ring.state := .enumerating }).envelope ∧
        t = { s with ring.state := .enumerating, envelope := t.envelope, portUnit := t.portUnit })) ∧
    (HandedOver .site (.restart .site) s → ∃ t, exec (.restart .site) s = .next t ∧
      (¬ atRest → AnsweredOnly .site 0x26 .wrongState [] s t) ∧
      (atRest → (∃ z, (s.zone z).state ≠ .normal) → AnsweredOnly .site 0x26 .refused [0x07] s t) ∧
      (atRest → (∀ z, (s.zone z).state = .normal) →
        AnswerAt .site 0x26 .ok [] s t ∧ OnlyAnswered .site
          { s with stateUnit.restart := if s.stateUnit.restart = .due then .due else .answered } t))

/-- R185 with the table and the coding of R191 and the ranges of section 9.6.1, and R12, R121 and R138 for what acts at
once. What the two zones' flags and evaluations do stands in `Obligations.ZoneEvaluated` and
`Obligations.ZonesTakePublications`, and that zones are taken 1 to 4 is the model's choice (log 10). An answer to an
unknown item carries the three bytes named alone (log 30), a DTN's second count is 0 (log 36), and the records of a
release or a hold that follow at once carry no port (log 40): the model's choices. -/
def Obligations.SettingStored : Prop :=
  (∀ c : Settings,
    let row (g i : Nat) (v lo hi step start : Int) : Nat × Nat × Int × Int × (Int × Int × Int) :=
      (g, i, v, start, lo, hi, step)
    let rows :=
      [ row 1 1 c.ring.period 50 2000 10 200, row 1 2 c.ring.rotationSlots 1 8 1 2,
        row 1 3 (if c.ring.retry then 1 else 0) 0 1 1 1, row 1 4 c.ring.patrolPeriod 1 60 1 10,
        row 3 1 c.cell.filterShift 0 5 1 3, row 3 2 c.cell.crossCheck 10 1000 1 150,
        row 3 3 c.cell.ovTrip 34000 40000 1 36500, row 3 4 c.cell.uvTrip 20000 32000 1 28000,
        row 3 5 c.cell.hysteresis 10 2000 1 500, row 3 6 c.cell.persistence 1 8 1 3,
        row 3 7 c.cell.staleLimit 2 255 1 10, row 3 8 c.cell.lostLimit 3 255 1 30,
        row 3 9 c.cell.dormantStale 2 255 1 40, row 3 10 c.cell.dormantLost 3 255 1 120,
        row 3 11 c.cell.hardLimit 400 800 1 600, row 3 12 c.cell.riseWindow 10 120 1 30,
        row 3 13 c.cell.eventRise 10 200 1 50, row 3 14 c.cell.eventTemperature 500 1000 1 750,
        row 4 1 c.envelope.ratedCharge 0 20000 1 2800, row 4 2 c.envelope.ratedDischarge 0 20000 1 3200,
        row 4 3 c.envelope.vtaper 30000 38000 1 34500, row 4 4 c.envelope.vceil 30000 38000 1 36000,
        row 4 5 c.envelope.vfloor 25000 34000 1 29000, row 4 6 c.envelope.vknee 25000 34000 1 31000,
        row 4 8 c.envelope.staleCap 0 1024 1 512, row 4 9 c.envelope.coolingCap 0 1024 1 512,
        row 4 10 c.envelope.disagreeCap 0 1024 1 768, row 4 11 c.envelope.preAlarmCap 0 1024 1 512,
        row 4 12 c.envelope.rampRate 10 5000 1 500, row 4 13 c.envelope.stepDownRate 100 20000 1 4000,
        row 4 14 c.envelope.tolerance 0 20 1 5, row 4 15 c.envelope.excessBudget 1 500 1 20,
        row 5 1 c.connection.prechargeTime 1 30 1 8, row 5 2 c.connection.confirmTime 20 500 1 150,
        row 5 3 c.connection.prechargeTolerance 10 500 1 100, row 5 4 c.connection.breakCurrent 10 1000 1 100,
        row 5 5 c.connection.shedTimeout 500 10000 1 3000, row 5 6 c.connection.voteWindow 10 600 1 120,
        row 5 7 c.connection.debounceTime 5 100 1 20, row 6 2 c.fire.releaseDelay 0 120 1 30,
        row 6 3 c.fire.clearTime 10 600 1 120, row 6 4 c.fire.singleSourceDelay 5 300 1 30,
        row 6 5 c.fire.persistence 1 4 1 2, row 6 6 c.fire.offgasWarn 10 5000 1 50,
        row 6 7 c.fire.offgasAlarm 10 5000 1 200, row 6 8 c.fire.heatRiseWindow 10 120 1 30,
        row 7 1 c.balance.nodeCap 1 16 1 6, row 7 2 c.balance.bleedFloor 30000 36000 1 33000,
        row 7 3 c.balance.bleedTemperature 300 700 1 500, row 8 1 c.cooling.heatOn (-300) 300 1 50,
        row 8 2 c.cooling.heatOff (-300) 350 1 100, row 8 3 c.cooling.coolOn 150 500 1 300,
        row 8 4 c.cooling.coolOff 100 500 1 270, row 8 5 c.cooling.coolSetPoint 100 450 1 250,
        row 8 6 c.cooling.gain 1 60 1 30, row 8 7 c.cooling.minimumLevel 0 15 1 3,
        row 8 8 c.cooling.fallbackLevel 0 15 1 10, row 8 9 c.cooling.heatLevel 0 15 1 6,
        row 8 10 c.cooling.purgeDelay 60 3000 1 600, row 8 11 c.cooling.flowTimeout 2 60 1 10,
        row 8 12 c.cooling.supplyLimit 200 600 1 350 ]
    (∀ g i v start range, (g, i, v, start, range) ∈ rows → ∃ x, SettingKey.ofCode g i 0 = some (.item x) ∧
      x.get c = v ∧ x.get Settings.default = start ∧ x.range = range) ∧
    (∀ g i j x, SettingKey.ofCode g i j = some (.item x) →
      j = 0 ∧ (g, i, x.get c, x.get Settings.default, x.range) ∈ rows) ∧
    (∀ g i j a, SettingKey.ofCode g i j = some (.nodeMap a) ↔ g = 2 ∧ i = 1 ∧ j = a ∧ a ≤ 23) ∧
    (∀ g i j a, SettingKey.ofCode g i j = some (.csnZone a) ↔ g = 2 ∧ i = 2 ∧ j = a ∧ a ≤ 23) ∧
    (∀ g i j n, SettingKey.ofCode g i j = some (.channelZone n) ↔ g = 2 ∧ i = 3 ∧ j = n ∧ n ≤ 31) ∧
    (∀ g i j n, SettingKey.ofCode g i j = some (.derating n) ↔ g = 4 ∧ i = 7 ∧ j = n + 1 ∧ n ≤ 5) ∧
    ∀ g i j z, SettingKey.ofCode g i j = some (.arming z) ↔
      g = 6 ∧ i = 1 ∧ 1 ≤ j ∧ [Zone.z1, .z2, .z3, .z4][j - 1]? = some z) ∧
  ∀ (s : State) (group item index : Byte) (value : List Byte),
    HandedOver .site (.setSetting .site group item index value) s →
    value.length = 4 ∨ value.length = 3 ∨ value.length = 6 →
    let c := s.settings
    let named : List Byte := [group, item, index]
    let zones : List Zone := [.z1, .z2, .z3, .z4]
    let number : Option Int :=
      match value with
      | [a, b, c, d] => some (a ++ b ++ c ++ d : BitVec 32).toInt
      | _ => none
    let zone : Option Zone := number.bind fun v => if 1 ≤ v then zones[v.toNat - 1]? else none
    let channelZone : Option ChannelZone :=
      number.bind fun v => if v = 0 then some .byNode else if v = 5 then some .unused else zone.map .zone
    let entry : Option (Option NodeKind) :=
      match value with
      | [k, x, y] =>
        if k = 0 ∧ x = 0 ∧ y = 0 then some none
        else if k = 1 ∧ 1 ≤ x.toNat ∧ x.toNat ≤ 16 ∧ y.toNat ≤ 4 then some (some (.csn x.toNat y.toNat))
        else if k = 2 ∧ 1 ≤ x.toNat ∧ x.toNat ≤ 8 ∧ y = 0 then some (some (.dtn x.toNat))
        else none
      | _ => none
    let point : Option DeratingPoint :=
      match value with
      | [t1, t0, c1, c0, d1, d0] =>
        let p : DeratingPoint :=
          ⟨(t1 ++ t0 : BitVec 16).toInt, (c1 ++ c0 : BitVec 16).toNat, (d1 ++ d0 : BitVec 16).toNat⟩
        if -400 ≤ p.temperature ∧ p.temperature ≤ 1250 ∧ p.charge ≤ 1024 ∧ p.discharge ≤ 1024 then some p else none
      | _ => none
    let wanted (k : SettingKey) : Option Settings :=
      match k with
      | .item i =>
        number.bind fun v =>
          if i.range.1 ≤ v ∧ v ≤ i.range.2.1 ∧ v % i.range.2.2 = 0 then some (i.put c v) else none
      | .nodeMap a => entry.map fun x => { c with map.nodes := c.map.nodes.set a x }
      | .csnZone a => zone.map fun x => { c with map.csnZones := c.map.csnZones.set a x }
      | .channelZone n => channelZone.map fun x => { c with map.channelZones := c.map.channelZones.set n x }
      | .derating n => point.map fun x => { c with envelope.derating := c.envelope.derating.set n x }
      | .arming z =>
        number.bind fun v =>
          if v = 1 ∨ v = 2 then some { c with fire.arming := c.fire.arming.set z (decide (v = 1)) } else none
    let coded (v : Int) : List Byte := four (v % 4294967296).toNat
    let held (k : SettingKey) (c : Settings) : List Byte :=
      match k with
      | .item i => coded (i.get c)
      | .nodeMap a =>
        match (c.map.nodes[a]?).join with
        | none => [0, 0, 0]
        | some (.csn x y) => [1, BitVec.ofNat 8 x, BitVec.ofNat 8 y]
        | some (.dtn x) => [2, BitVec.ofNat 8 x, 0]
      | .csnZone a => coded (zones.idxOf ((c.map.csnZones[a]?).getD .z1) + 1)
      | .channelZone n =>
        match (c.map.channelZones[n]?).getD .byNode with
        | .byNode => coded 0
        | .zone z => coded (zones.idxOf z + 1)
        | .unused => coded 5
      | .derating n =>
        match (c.envelope.derating[n]?).getD ⟨0, 0, 0⟩ with
        | p => signed p.temperature ++ two p.charge ++ two p.discharge
      | .arming z => coded (if c.fire.arming.get z then 1 else 2)
    ∃ t, exec (.setSetting .site group item index value) s = .next t ∧
      (SettingKey.ofCode group.toNat item.toNat index.toNat = none → AnsweredOnly .site 0x20 .outOfRange named s t) ∧
      ∀ k, SettingKey.ofCode group.toNat item.toNat index.toNat = some k →
        (group ≠ 0x08 → s.stateUnit.state ≠ .setup →
          AnsweredOnly .site 0x20 .wrongState (named ++ held k c) s t) ∧
        (group = 0x08 ∨ s.stateUnit.state = .setup →
          (wanted k = none → AnsweredOnly .site 0x20 .outOfRange (named ++ held k c) s t) ∧
          ∀ new, wanted k = some new →
            AnswerAt .site 0x20 .ok (named ++ held k new) s t ∧ PortsAnswered .site s t ∧ t.settings = new ∧
            (new = c → AnsweredOnly .site 0x20 .ok (named ++ held k c) s t) ∧
            ((∀ a, k ≠ .csnZone a) → (∀ n, k ≠ .channelZone n) →
              OnlyAnswered .site { s with stateUnit.settings := new } t) ∧
            (∀ i, k = .item i →
              some (i.get new) = number ∧ (∀ j, j ≠ i → j.get new = j.get c) ∧ new.map = c.map ∧
              new.envelope.derating = c.envelope.derating ∧ new.fire.arming = c.fire.arming) ∧
            (∀ a, k = .csnZone a → new ≠ c →
              OnlyAnswered .site
                { s with
                  stateUnit.settings := new
                  ring.directory :=
                    s.ring.directory.map fun e =>
                      if e.address = a ∧ e.kind.isCsn = true then { e with zone := zone } else e } t) ∧
            (∀ n, k = .channelZone n → s.zones.channels[n]? = none →
              OnlyAnswered .site { s with stateUnit.settings := new } t) ∧
            (∀ n x ch, k = .channelZone n → channelZone = some x → new ≠ c → s.zones.channels[n]? = some ch →
              let dtns := (s.ring.directory.filter fun e => !e.kind.isCsn).map (·.address)
              let joined : Option Zone :=
                match x with
                | .byNode => zones[dtns.idxOf ch.node]?
                | .zone z => some z
                | .unused => none
              let touched := zones.filter fun z => ch.zone == some z || joined == some z
              let moved : State :=
                { s with
                  stateUnit.settings := new
                  zones.channels := s.zones.channels.set n { ch with zone := joined } }
              ch.node ∈ dtns →
              (t.zones.channels[n]? = some { ch with zone := joined }) ∧
              (joined = ch.zone → OnlyAnswered .site { s with stateUnit.settings := new } t) ∧
              (joined ≠ ch.zone → OnlyAnswered .site
                (touched.foldl (fun u z => evaluateZone { origin := some ⟨.site, none⟩ } z u)
                  (touched.foldl workOutFlags moved)) t) ∧
              (JournalConsecutive s →
                ∃ es : List Entry, Appended es s t ∧ ∀ e ∈ es, e.kind = .zoneState → e.cause ≠ .zone .released →
                  e.cause ≠ .zone .held → e.origin = some ⟨.site, none⟩)))

/-- R20 and R21, with the voltages of R66. A FIXED command carries a mode other than AUTO (log 29). That OK carries both
windows and the other answers nothing is the model's choice (log 15). -/
def Obligations.WatchRequest : Prop :=
  ∀ (s : State) (window mode address : Byte), mode ≠ 0x01 →
    let a := s.ring.windowA
    let b := s.ring.windowB
    let node := some address.toNat
    let sent (w : Window) : List Byte :=
      [place [WatchMode.auto, .fixed] w.mode] ++ may 1 (fun a => [BitVec.ofNat 8 a]) w.chosen
    let only (t : State) : Prop :=
      t = { s with ring.windowA := t.ring.windowA, ring.windowB := t.ring.windowB, portUnit := t.portUnit } ∧
      AnswerAt .site 0x28 .ok (sent t.ring.windowA ++ sent t.ring.windowB) s t ∧ PortsAnswered .site s t
    let yields (other : Window) (chosen : Option Nat) : Window :=
      if other.mode = .auto ∧ other.chosen = chosen then { other with chosen := none } else other
    let chosenA := if b.mode = .fixed ∧ b.chosen = highestNode s then none else highestNode s
    let chosenB := if a.chosen = lowestNode s then none else lowestNode s
    let extreme (worse : Nat → Nat → Nat) (before : Nat → Nat → Prop) (found : Option Nat) : Prop :=
      ∀ x, found = some x ↔ ∃ n c v, s.records.image.cells[n]? = some c ∧ GivesVoltage worse c v ∧
        (∀ m d w, s.records.image.cells[m]? = some d → GivesVoltage worse d w → before w v ∧ (w = v → n ≤ m)) ∧
        ∃ p ∈ spans s.ring.directory, p.node.address = x ∧ p.firstCell ≤ n ∧ n < p.firstCell + p.cells
    let published := watchPublication s
    (HandedOver .site (.setWatchFixed .site window mode address) s →
      ∃ t, exec (.setWatchFixed .site window mode address) s = .next t ∧
      ((window ≠ 0x01 ∧ window ≠ 0x02) ∨ mode ≠ 0x02 ∨ ¬ IsCsn s address.toNat →
        AnsweredOnly .site 0x28 .outOfRange [] s t) ∧
      (mode = 0x02 → IsCsn s address.toNat →
        (window = 0x01 → b.mode = .fixed → b.chosen = node → AnsweredOnly .site 0x28 .refused [0x12] s t) ∧
        (window = 0x02 → a.mode = .fixed → a.chosen = node → AnsweredOnly .site 0x28 .refused [0x12] s t) ∧
        (window = 0x01 → ¬ (b.mode = .fixed ∧ b.chosen = node) → only t ∧
          t.ring.windowA = ⟨.fixed, node, a.current⟩ ∧ t.ring.windowB = yields b node) ∧
        (window = 0x02 → ¬ (a.mode = .fixed ∧ a.chosen = node) → only t ∧
          t.ring.windowB = ⟨.fixed, node, b.current⟩ ∧ t.ring.windowA = yields a node))) ∧
    (HandedOver .site (.setWatchAuto .site window) s → ∃ t, exec (.setWatchAuto .site window) s = .next t ∧
      (window ≠ 0x01 → window ≠ 0x02 → AnsweredOnly .site 0x28 .outOfRange [] s t) ∧
      (window = 0x01 → only t ∧ t.ring.windowA = ⟨.auto, chosenA, a.current⟩ ∧ t.ring.windowB = yields b chosenA) ∧
      (window = 0x02 → only t ∧ t.ring.windowB = ⟨.auto, chosenB, b.current⟩ ∧ t.ring.windowA = yields a chosenB)) ∧
    extreme max (· ≤ ·) (highestNode s) ∧ extreme min (· ≥ ·) (lowestNode s) ∧
    published = { s with ring.windowA := published.ring.windowA, ring.windowB := published.ring.windowB } ∧
    published.ring.windowA = { a with chosen := if a.mode = .auto then chosenA else a.chosen } ∧
    published.ring.windowB =
      { b with
        chosen :=
          if b.mode = .fixed then b.chosen
          else if published.ring.windowA.chosen = lowestNode s then none else lowestNode s }

/-- R122 to R126, R127 for the flags after a delivery, and R131 with the evidence of R129 and R138 for the evaluations
(`evaluateZone` and `workOutFlags` are stated on their own). That a new kind also clears the reference age is the
model's reading (log 34), and that the flags and then the zones are taken in the order 1 to 4 its choice (log 10). -/
def Obligations.DetectReadingApplied : Prop :=
  (∀ (f : FireSettings) (r : DetectReading) (c : Channel),
    let faulted (reason : FaultReason) (x : Channel) : Channel :=
      { x with
        fault := some reason, level := .quiet, candidate := none, run := 0, reference := none, referenceAge := 0
        lastRise := none }
    let d := c.apply f r
    (r.kind = 0 ∨ 4 < r.kind → d = faulted .badKind c) ∧
    ∀ k, ChannelKind.code k = r.kind →
      let x : Channel :=
        if c.kind = some k then c
        else
          { c with
            kind := some k, level := .quiet, candidate := none, run := 0, reference := none, referenceAge := 0
            lastRise := none }
      let v : Int := if k = .heat then r.value.toInt else r.value.toNat
      let low : Int := if k = .heat then -400 else 0
      let high : Int := match k with
        | .offgas => 5000
        | .heat => 1250
        | .smoke => 1
        | .manual => 1
      let good := r.fault = false ∧ low ≤ v ∧ v ≤ high
      let ripe := k = .heat ∧ ∃ p, x.reference = some p ∧ 1000 * f.heatRiseWindow ≤ x.referenceAge
      let first := k = .heat ∧ x.reference = none
      let candidate : Level := match k with
        | .offgas => if f.offgasAlarm ≤ v then .alarm else if f.offgasWarn ≤ v then .warn else .quiet
        | .heat => if 700 ≤ v then .alarm else if d.lastRise.any (80 ≤ ·) then .warn else .quiet
        | .smoke => if v = 1 then .alarm else .quiet
        | .manual => if v = 1 then .call else .quiet
      let run := if x.candidate = some candidate then x.run + 1 else 1
      (r.fault = true → d = faulted .flag x) ∧
      (r.fault = false → ¬ (low ≤ v ∧ v ≤ high) → d = faulted .badValue x) ∧
      (good →
        d = { x with
              fault := none, value := some v, level := d.level, candidate := d.candidate, run := d.run
              reference := d.reference, referenceAge := d.referenceAge, lastRise := d.lastRise } ∧
        (ripe → d.reference = some v ∧ d.referenceAge = 0 ∧ d.lastRise = x.reference.map (v - ·)) ∧
        (first → d.reference = some v ∧ d.referenceAge = 0 ∧ d.lastRise = x.lastRise) ∧
        (¬ ripe → ¬ first →
          d.reference = x.reference ∧ d.referenceAge = x.referenceAge ∧ d.lastRise = x.lastRise) ∧
        (candidate = .call → d.level = .call ∧ d.candidate = none ∧ d.run = 0) ∧
        (candidate ≠ .call → candidate = x.level → d.level = x.level ∧ d.candidate = none ∧ d.run = 0) ∧
        (candidate ≠ .call → candidate ≠ x.level → f.persistence ≤ run →
          d.level = candidate ∧ d.candidate = none ∧ d.run = 0) ∧
        (candidate ≠ .call → candidate ≠ x.level → run < f.persistence →
          d.level = x.level ∧ d.candidate = some candidate ∧ d.run = run))) ∧
  ∀ (s : State) (node failures : Nat) (readings : List DetectReading),
    let flagsOf (t : State) : Prop :=
      ∀ z, (∃ c ∈ s.zones.channels, c.node = node ∧ c.zone = some z) →
        let l := t.zones.channels.filter fun c => decide (c.zone = some z)
        ((t.zone z).degraded = true ↔ l.countP (fun c => decide (c.fault = none ∧ c.kind ≠ some .manual)) < 2) ∧
        ((t.zone z).blind = true ↔ l ≠ [] ∧ ∀ c ∈ l, c.fault ≠ none)
    let held : List Zone :=
      [.z1, .z2, .z3, .z4].filter fun z => s.zones.channels.any fun c => c.node == node && c.zone == some z
    let evidence (x : State) (z : Zone) : Evidence :=
      let moved (which : Level → Bool) : List Location :=
        ((s.zones.channels.zip x.zones.channels).zipIdx.filter fun (c, _) =>
          c.2.zone == some z && c.1.level != c.2.level && which c.2.level).map fun (_, n) => .channel n
      let sources :=
        x.zones.channels.countP (fun c => c.zone == some z && c.level == .alarm) + (if (x.zone z).thermal then 1 else 0)
      { active := moved (· != .quiet)
        confirming := moved fun l => l == .call || (l == .alarm && decide (2 ≤ sources))
        calls := moved (· == .call) }
    let reported (v : State) : Prop :=
      v = held.foldl (fun x z => evaluateZone (evidence x z) z x)
        (held.foldl workOutFlags { s with zones.channels := v.zones.channels })
    let t := detectDelivery node readings s
    let u := detectFailure node failures s
    reported t ∧ reported u ∧
    (t.zones.channels = s.zones.channels.map fun c =>
      if c.node = node then
        match readings[c.position]? with
        | some r => c.apply s.settings.fire r
        | none => c
      else c) ∧ flagsOf t ∧
    (∀ (i : Nat) (c : Channel), s.zones.channels[i]? = some c →
      (c.node ≠ node ∨ failures < 3 → u.zones.channels[i]? = some c) ∧
      (c.node = node → 3 ≤ failures →
        u.zones.channels[i]? = some
          { c with
            fault := some .nodeFailed, level := .quiet, candidate := none, run := 0, reference := none
            referenceAge := 0, lastRise := none })) ∧ flagsOf u

/-- R129, R131 to R134 and R137 to R139. `e` names the channels whose change made the evaluation and the port of a
request that made it; among several channels the journal's location is free (log 8), and a hold or release that follows
a COUNTDOWN at once is recorded without port and location (log 40): the model's choices. -/
def Obligations.ZoneEvaluated : Prop :=
  ∀ (s : State) (z : Zone) (e : Evidence),
    let r := s.zone z
    let delay := 1000 * s.settings.fire.releaseDelay
    let own (l : Level) := s.zones.channels.countP fun c => decide (c.zone = some z ∧ c.level = l)
    let sources := own .alarm + (if r.thermal then 1 else 0)
    let confirmed := 2 ≤ sources ∨ 0 < own .call
    let active := 0 < own .warn ∨ 0 < own .alarm ∨ 0 < own .call ∨ r.thermal = true
    let single :=
      if r.degraded = true ∧ 1 ≤ sources then
        some (r.singleSource.getD (1000 * s.settings.fire.singleSourceDelay))
      else none
    let clear := if active then none else some (r.clearCountdown.getD (1000 * s.settings.fire.clearTime))
    let t := evaluateZone e z s
    let silent := s.connection.state = .lockout ∧ s.stateUnit.state ≠ .dormant
    let noted (new : ZoneState) (l : Option Location) : Entry :=
      { kind := .zoneState, cause := .zone new, origin := e.origin, zone := some z, location := l }
    let started : ZoneRecord :=
      { r with
        state := .countdown, stationHold := false, countdown := some delay, clearCountdown := none
        singleSource := none }
    let countsDown (l : List Location) : Prop :=
      PendingEverywhere .fire t ∧
      (silent → s.live .holdSwitch = false → 0 < delay → ∀ a, l = [a] → Appended [noted .countdown (some a)] s t) ∧
      t.connection.lastTrip = some ⟨.zoneAlarm, .severe, some z, none, none, s.lines.timeBase⟩ ∧
      t.zone z =
        if s.live .holdSwitch = true then { started with state := .held }
        else if delay = 0 then
          { started with
            state := .released, countdown := none, releasedFor := some 0
            lastRelease := some ⟨s.lines.timeBase, s.live .damperClosed⟩ }
        else started
    (∀ y, y ≠ z → t.zone y = s.zone y) ∧ t.zones.channels = s.zones.channels ∧
    (r.state = .alarm ∨ r.state = .countdown ∨ r.state = .held ∨ r.state = .released → t = s) ∧
    (r.state = .normal ∨ r.state = .preAlarm → confirmed → s.settings.fire.arming.get z = true →
      countsDown e.confirming) ∧
    (r.state = .normal ∨ r.state = .preAlarm → confirmed → s.settings.fire.arming.get z = false →
      t.zone z = { r with state := .alarm, clearCountdown := none, singleSource := none } ∧
      (silent → ∀ l, e.confirming = [l] → Appended [noted .alarm (some l)] s t) ∧ PendingEverywhere .fire t ∧
      t.connection.lastTrip = some ⟨.zoneAlarm, .severe, some z, none, none, s.lines.timeBase⟩) ∧
    (r.state = .normal → ¬ confirmed → active →
      t.zone z = { r with state := .preAlarm, singleSource := single } ∧ t.connection = s.connection ∧
      PendingEverywhere .fire t ∧
      (s.stateUnit.state ≠ .dormant → ∀ l, e.active = [l] → Appended [noted .preAlarm (some l)] s t)) ∧
    (r.state = .normal → ¬ confirmed → ¬ active →
      t = { s with zones.zones := s.zones.zones.set z { r with singleSource := none } }) ∧
    (r.state = .preAlarm → ¬ confirmed →
      t = { s with zones.zones := s.zones.zones.set z { r with singleSource := single, clearCountdown := clear } }) ∧
    (r.state = .aborted → e.calls = [] → t = s) ∧
    (r.state = .aborted → e.calls ≠ [] → countsDown e.calls)

/-- R121, R127, R128 and the location of R138. That the zones are taken in the order 1 to 4 is the model's choice (log
10). -/
def Obligations.ZonesTakePublications : Prop :=
  ∀ (s : State) (z : Zone),
    let nodes (z : Zone) : List Nat :=
      s.records.image.summary.thermalNodes.filter fun a =>
        decide (∃ e ∈ s.ring.directory, e.address = a ∧ e.zone = some z)
    let t := zonePublication s
    let u := workOutFlags s z
    let own := s.zones.channels.filter fun c => decide (c.zone = some z)
    let degraded := decide (own.countP (fun c => decide (c.fault = none ∧ c.kind ≠ some .manual)) < 2)
    let blind := decide (own ≠ [] ∧ ∀ c ∈ own, c.fault ≠ none)
    let flagged : ZoneRecord := { s.zone z with degraded := degraded, blind := blind }
    let stands (y : Zone) : Prop := (s.zone y).thermal = true ↔ nodes y ≠ []
    ((t.zone z).thermal = true ↔ nodes z ≠ []) ∧ t.zones.channels = s.zones.channels ∧
    (stands z → t.zone z = s.zone z) ∧
    ((∀ y, stands y) → t = s) ∧
    (let thermal (y : Zone) : Bool := !(nodes y).isEmpty
      let place (y : Zone) : List Location := ((nodes y).head?.map Location.node).toList
      let sourced : State :=
        { s with zones.zones :=
            ⟨{ s.zone .z1 with thermal := thermal .z1 }, { s.zone .z2 with thermal := thermal .z2 },
              { s.zone .z3 with thermal := thermal .z3 }, { s.zone .z4 with thermal := thermal .z4 }⟩ }
      t = [.z1, .z2, .z3, .z4].foldl (fun x y =>
        if (s.zone y).thermal = thermal y then x
        else evaluateZone { active := place y, confirming := place y } y x) sourced) ∧
    u.zone z = flagged ∧ (∀ y, y ≠ z → u.zone y = s.zone y) ∧
    (flagged = s.zone z → u = s) ∧
    (flagged ≠ s.zone z →
      PendingEverywhere .fire u ∧ JournalKept s u ∧ PortsNotified s u ∧
      u.envelope = (capInputChanged { s with zones := u.zones }).envelope ∧ u.envelope.full = false ∧
      u = { s with zones := u.zones, envelope := u.envelope, portUnit := u.portUnit }) ∧
    ((rebuildChannels s).zone z).thermal = false

/-- R188 and R191, over all request rows and UNKNOWN_REQUEST. -/
def Obligations.RequestCodingRoundTrip : Prop :=
  (∀ (c : Instr) (p : PortId) (q : Request), c.wellFormed = true → requestOf c = some (p, q) →
    q.payload.length ≤ 63 ∧ readRequest p q = some c) ∧
  (∀ (p : PortId) (q : Request), portCheckOf p q = none → ∃ c, readRequest p q = some c) ∧
  ∀ (p : PortId) (q : Request) (c : Instr), readRequest p q = some c →
    ∃ r, requestOf c = some (p, r) ∧ r.code = q.code

/-- R94, R136 and R151, as promises over every step. -/
def Obligations.FireOutputsKept : Prop :=
  ∀ s t : State, LinesFollowState s → AgentLinesFollowZones s → SealedInFire s → step s = .next t →
    LinesFollowState t ∧ AgentLinesFollowZones t ∧ SealedInFire t

/-- R72, R76 and R77, as promises over every step. -/
def Obligations.EnvelopeKept : Prop :=
  ∀ s t : State, EnvelopeZeroed s → EnvelopeWithinTargets s → step s = .next t →
    EnvelopeZeroed t ∧ EnvelopeWithinTargets t

/-- R83, R86, R96, R101, R107 and R180, as promises over every step. The settings in range make the threshold positive.
-/
def Obligations.ConnectionKept : Prop :=
  ∀ s t : State, ClosedOnlyWhileSafe s → MonitorKept s → SettingsInRange s → step s = .next t →
    ClosedOnlyWhileSafe t ∧ MonitorKept t

/-- R197, as a promise over every step. -/
def Obligations.JournalKeptConsecutive : Prop :=
  ∀ s t : State, JournalConsecutive s → step s = .next t →
    JournalConsecutive t

/-- R20 and R21 for the windows, and R16, R17 and R27 for the node attempts, each as a promise over every step. -/
def Obligations.RingKept : Prop :=
  ∀ s t : State, step s = .next t →
    (WindowsApart s → WindowsApart t) ∧ (NodeAttemptInCycle s → NodeAttemptInCycle t)

/-- R53, R54 and R59, as a promise over every step. -/
def Obligations.BalanceKept : Prop :=
  ∀ s t : State, BalanceTableKept s → step s = .next t →
    BalanceTableKept t

/-- R185 with the ranges of section 9.6.1, as a promise over every step. Zones and arming have no other values. -/
def Obligations.SettingsKeptInRange : Prop :=
  ∀ s t : State, SettingsInRange s → step s = .next t →
    SettingsInRange t

end Slice0Statements
end

