-- ==== Sys2Proof/Laws/State.lean ====
section
/-! SUPPORT. One lemma for each field of the state that a named update leaves alone, each true by unfolding, and the
fields a named update writes. Later proofs rewrite with these and unfold no record update. -/

namespace Sys2Proof.Machine

/-! ### setZone -/

@[simp] theorem setZone_ring (z : Zone) (r : ZoneRecord) (s : State) : (setZone z r s).ring = s.ring := rfl
@[simp] theorem setZone_records (z : Zone) (r : ZoneRecord) (s : State) : (setZone z r s).records = s.records := rfl
@[simp] theorem setZone_balance (z : Zone) (r : ZoneRecord) (s : State) : (setZone z r s).balance = s.balance := rfl
@[simp] theorem setZone_envelope (z : Zone) (r : ZoneRecord) (s : State) : (setZone z r s).envelope = s.envelope := rfl
@[simp] theorem setZone_monitor (z : Zone) (r : ZoneRecord) (s : State) : (setZone z r s).monitor = s.monitor := rfl
@[simp] theorem setZone_connection (z : Zone) (r : ZoneRecord) (s : State) : (setZone z r s).connection = s.connection := rfl
@[simp] theorem setZone_cooling (z : Zone) (r : ZoneRecord) (s : State) : (setZone z r s).cooling = s.cooling := rfl
@[simp] theorem setZone_lines (z : Zone) (r : ZoneRecord) (s : State) : (setZone z r s).lines = s.lines := rfl
@[simp] theorem setZone_stateUnit (z : Zone) (r : ZoneRecord) (s : State) : (setZone z r s).stateUnit = s.stateUnit := rfl
@[simp] theorem setZone_portUnit (z : Zone) (r : ZoneRecord) (s : State) : (setZone z r s).portUnit = s.portUnit := rfl
@[simp] theorem setZone_freeCount (z : Zone) (r : ZoneRecord) (s : State) : (setZone z r s).freeCount = s.freeCount := rfl
@[simp] theorem setZone_pending (z : Zone) (r : ZoneRecord) (s : State) : (setZone z r s).pending = s.pending := rfl

/-! ### setPort -/

@[simp] theorem setPort_ring (p : PortId) (r : PortRecord) (s : State) : (setPort p r s).ring = s.ring := rfl
@[simp] theorem setPort_records (p : PortId) (r : PortRecord) (s : State) : (setPort p r s).records = s.records := rfl
@[simp] theorem setPort_balance (p : PortId) (r : PortRecord) (s : State) : (setPort p r s).balance = s.balance := rfl
@[simp] theorem setPort_envelope (p : PortId) (r : PortRecord) (s : State) : (setPort p r s).envelope = s.envelope := rfl
@[simp] theorem setPort_monitor (p : PortId) (r : PortRecord) (s : State) : (setPort p r s).monitor = s.monitor := rfl
@[simp] theorem setPort_connection (p : PortId) (r : PortRecord) (s : State) : (setPort p r s).connection = s.connection := rfl
@[simp] theorem setPort_zones (p : PortId) (r : PortRecord) (s : State) : (setPort p r s).zones = s.zones := rfl
@[simp] theorem setPort_cooling (p : PortId) (r : PortRecord) (s : State) : (setPort p r s).cooling = s.cooling := rfl
@[simp] theorem setPort_lines (p : PortId) (r : PortRecord) (s : State) : (setPort p r s).lines = s.lines := rfl
@[simp] theorem setPort_stateUnit (p : PortId) (r : PortRecord) (s : State) : (setPort p r s).stateUnit = s.stateUnit := rfl
@[simp] theorem setPort_freeCount (p : PortId) (r : PortRecord) (s : State) : (setPort p r s).freeCount = s.freeCount := rfl
@[simp] theorem setPort_pending (p : PortId) (r : PortRecord) (s : State) : (setPort p r s).pending = s.pending := rfl

/-! ### setCell -/

@[simp] theorem setCell_ring (n : Nat) (c : Cell) (s : State) : (setCell n c s).ring = s.ring := rfl
@[simp] theorem setCell_balance (n : Nat) (c : Cell) (s : State) : (setCell n c s).balance = s.balance := rfl
@[simp] theorem setCell_envelope (n : Nat) (c : Cell) (s : State) : (setCell n c s).envelope = s.envelope := rfl
@[simp] theorem setCell_monitor (n : Nat) (c : Cell) (s : State) : (setCell n c s).monitor = s.monitor := rfl
@[simp] theorem setCell_connection (n : Nat) (c : Cell) (s : State) : (setCell n c s).connection = s.connection := rfl
@[simp] theorem setCell_zones (n : Nat) (c : Cell) (s : State) : (setCell n c s).zones = s.zones := rfl
@[simp] theorem setCell_cooling (n : Nat) (c : Cell) (s : State) : (setCell n c s).cooling = s.cooling := rfl
@[simp] theorem setCell_lines (n : Nat) (c : Cell) (s : State) : (setCell n c s).lines = s.lines := rfl
@[simp] theorem setCell_stateUnit (n : Nat) (c : Cell) (s : State) : (setCell n c s).stateUnit = s.stateUnit := rfl
@[simp] theorem setCell_portUnit (n : Nat) (c : Cell) (s : State) : (setCell n c s).portUnit = s.portUnit := rfl
@[simp] theorem setCell_freeCount (n : Nat) (c : Cell) (s : State) : (setCell n c s).freeCount = s.freeCount := rfl
@[simp] theorem setCell_pending (n : Nat) (c : Cell) (s : State) : (setCell n c s).pending = s.pending := rfl

/-! ### setSensor -/

@[simp] theorem setSensor_ring (n : Nat) (c : Sensor) (s : State) : (setSensor n c s).ring = s.ring := rfl
@[simp] theorem setSensor_balance (n : Nat) (c : Sensor) (s : State) : (setSensor n c s).balance = s.balance := rfl
@[simp] theorem setSensor_envelope (n : Nat) (c : Sensor) (s : State) : (setSensor n c s).envelope = s.envelope := rfl
@[simp] theorem setSensor_monitor (n : Nat) (c : Sensor) (s : State) : (setSensor n c s).monitor = s.monitor := rfl
@[simp] theorem setSensor_connection (n : Nat) (c : Sensor) (s : State) : (setSensor n c s).connection = s.connection := rfl
@[simp] theorem setSensor_zones (n : Nat) (c : Sensor) (s : State) : (setSensor n c s).zones = s.zones := rfl
@[simp] theorem setSensor_cooling (n : Nat) (c : Sensor) (s : State) : (setSensor n c s).cooling = s.cooling := rfl
@[simp] theorem setSensor_lines (n : Nat) (c : Sensor) (s : State) : (setSensor n c s).lines = s.lines := rfl
@[simp] theorem setSensor_stateUnit (n : Nat) (c : Sensor) (s : State) : (setSensor n c s).stateUnit = s.stateUnit := rfl
@[simp] theorem setSensor_portUnit (n : Nat) (c : Sensor) (s : State) : (setSensor n c s).portUnit = s.portUnit := rfl
@[simp] theorem setSensor_freeCount (n : Nat) (c : Sensor) (s : State) : (setSensor n c s).freeCount = s.freeCount := rfl
@[simp] theorem setSensor_pending (n : Nat) (c : Sensor) (s : State) : (setSensor n c s).pending = s.pending := rfl

/-! ### setEntry -/

@[simp] theorem setEntry_ring (n : Nat) (e : BalanceEntry) (s : State) : (setEntry n e s).ring = s.ring := rfl
@[simp] theorem setEntry_records (n : Nat) (e : BalanceEntry) (s : State) : (setEntry n e s).records = s.records := rfl
@[simp] theorem setEntry_envelope (n : Nat) (e : BalanceEntry) (s : State) : (setEntry n e s).envelope = s.envelope := rfl
@[simp] theorem setEntry_monitor (n : Nat) (e : BalanceEntry) (s : State) : (setEntry n e s).monitor = s.monitor := rfl
@[simp] theorem setEntry_connection (n : Nat) (e : BalanceEntry) (s : State) : (setEntry n e s).connection = s.connection := rfl
@[simp] theorem setEntry_zones (n : Nat) (e : BalanceEntry) (s : State) : (setEntry n e s).zones = s.zones := rfl
@[simp] theorem setEntry_cooling (n : Nat) (e : BalanceEntry) (s : State) : (setEntry n e s).cooling = s.cooling := rfl
@[simp] theorem setEntry_lines (n : Nat) (e : BalanceEntry) (s : State) : (setEntry n e s).lines = s.lines := rfl
@[simp] theorem setEntry_stateUnit (n : Nat) (e : BalanceEntry) (s : State) : (setEntry n e s).stateUnit = s.stateUnit := rfl
@[simp] theorem setEntry_portUnit (n : Nat) (e : BalanceEntry) (s : State) : (setEntry n e s).portUnit = s.portUnit := rfl
@[simp] theorem setEntry_freeCount (n : Nat) (e : BalanceEntry) (s : State) : (setEntry n e s).freeCount = s.freeCount := rfl
@[simp] theorem setEntry_pending (n : Nat) (e : BalanceEntry) (s : State) : (setEntry n e s).pending = s.pending := rfl

/-! ### clearBalance -/

@[simp] theorem clearBalance_ring (s : State) : (clearBalance s).ring = s.ring := rfl
@[simp] theorem clearBalance_records (s : State) : (clearBalance s).records = s.records := rfl
@[simp] theorem clearBalance_envelope (s : State) : (clearBalance s).envelope = s.envelope := rfl
@[simp] theorem clearBalance_monitor (s : State) : (clearBalance s).monitor = s.monitor := rfl
@[simp] theorem clearBalance_connection (s : State) : (clearBalance s).connection = s.connection := rfl
@[simp] theorem clearBalance_zones (s : State) : (clearBalance s).zones = s.zones := rfl
@[simp] theorem clearBalance_cooling (s : State) : (clearBalance s).cooling = s.cooling := rfl
@[simp] theorem clearBalance_lines (s : State) : (clearBalance s).lines = s.lines := rfl
@[simp] theorem clearBalance_stateUnit (s : State) : (clearBalance s).stateUnit = s.stateUnit := rfl
@[simp] theorem clearBalance_portUnit (s : State) : (clearBalance s).portUnit = s.portUnit := rfl
@[simp] theorem clearBalance_freeCount (s : State) : (clearBalance s).freeCount = s.freeCount := rfl
@[simp] theorem clearBalance_pending (s : State) : (clearBalance s).pending = s.pending := rfl

/-! ### setInput -/

@[simp] theorem setInput_ring (i : Input) (r : InputRecord) (s : State) : (setInput i r s).ring = s.ring := rfl
@[simp] theorem setInput_records (i : Input) (r : InputRecord) (s : State) : (setInput i r s).records = s.records := rfl
@[simp] theorem setInput_balance (i : Input) (r : InputRecord) (s : State) : (setInput i r s).balance = s.balance := rfl
@[simp] theorem setInput_envelope (i : Input) (r : InputRecord) (s : State) : (setInput i r s).envelope = s.envelope := rfl
@[simp] theorem setInput_monitor (i : Input) (r : InputRecord) (s : State) : (setInput i r s).monitor = s.monitor := rfl
@[simp] theorem setInput_connection (i : Input) (r : InputRecord) (s : State) : (setInput i r s).connection = s.connection := rfl
@[simp] theorem setInput_zones (i : Input) (r : InputRecord) (s : State) : (setInput i r s).zones = s.zones := rfl
@[simp] theorem setInput_cooling (i : Input) (r : InputRecord) (s : State) : (setInput i r s).cooling = s.cooling := rfl
@[simp] theorem setInput_stateUnit (i : Input) (r : InputRecord) (s : State) : (setInput i r s).stateUnit = s.stateUnit := rfl
@[simp] theorem setInput_portUnit (i : Input) (r : InputRecord) (s : State) : (setInput i r s).portUnit = s.portUnit := rfl
@[simp] theorem setInput_freeCount (i : Input) (r : InputRecord) (s : State) : (setInput i r s).freeCount = s.freeCount := rfl
@[simp] theorem setInput_pending (i : Input) (r : InputRecord) (s : State) : (setInput i r s).pending = s.pending := rfl

/-! ### raise -/

@[simp] theorem raise_ring (n : Notice) (s : State) : (raise n s).ring = s.ring := rfl
@[simp] theorem raise_records (n : Notice) (s : State) : (raise n s).records = s.records := rfl
@[simp] theorem raise_balance (n : Notice) (s : State) : (raise n s).balance = s.balance := rfl
@[simp] theorem raise_envelope (n : Notice) (s : State) : (raise n s).envelope = s.envelope := rfl
@[simp] theorem raise_monitor (n : Notice) (s : State) : (raise n s).monitor = s.monitor := rfl
@[simp] theorem raise_connection (n : Notice) (s : State) : (raise n s).connection = s.connection := rfl
@[simp] theorem raise_zones (n : Notice) (s : State) : (raise n s).zones = s.zones := rfl
@[simp] theorem raise_cooling (n : Notice) (s : State) : (raise n s).cooling = s.cooling := rfl
@[simp] theorem raise_lines (n : Notice) (s : State) : (raise n s).lines = s.lines := rfl
@[simp] theorem raise_stateUnit (n : Notice) (s : State) : (raise n s).stateUnit = s.stateUnit := rfl
@[simp] theorem raise_freeCount (n : Notice) (s : State) : (raise n s).freeCount = s.freeCount := rfl
@[simp] theorem raise_pending (n : Notice) (s : State) : (raise n s).pending = s.pending := rfl

/-! ### append -/

@[simp] theorem append_ring (e : Entry) (s : State) : (append e s).ring = s.ring := rfl
@[simp] theorem append_records (e : Entry) (s : State) : (append e s).records = s.records := rfl
@[simp] theorem append_balance (e : Entry) (s : State) : (append e s).balance = s.balance := rfl
@[simp] theorem append_envelope (e : Entry) (s : State) : (append e s).envelope = s.envelope := rfl
@[simp] theorem append_monitor (e : Entry) (s : State) : (append e s).monitor = s.monitor := rfl
@[simp] theorem append_connection (e : Entry) (s : State) : (append e s).connection = s.connection := rfl
@[simp] theorem append_zones (e : Entry) (s : State) : (append e s).zones = s.zones := rfl
@[simp] theorem append_cooling (e : Entry) (s : State) : (append e s).cooling = s.cooling := rfl
@[simp] theorem append_lines (e : Entry) (s : State) : (append e s).lines = s.lines := rfl
@[simp] theorem append_stateUnit (e : Entry) (s : State) : (append e s).stateUnit = s.stateUnit := rfl
@[simp] theorem append_freeCount (e : Entry) (s : State) : (append e s).freeCount = s.freeCount := rfl
@[simp] theorem append_pending (e : Entry) (s : State) : (append e s).pending = s.pending := rfl

/-! ### journalTrip -/

@[simp] theorem journalTrip_ring (t : Trip) (s : State) : (journalTrip t s).ring = s.ring := rfl
@[simp] theorem journalTrip_records (t : Trip) (s : State) : (journalTrip t s).records = s.records := rfl
@[simp] theorem journalTrip_balance (t : Trip) (s : State) : (journalTrip t s).balance = s.balance := rfl
@[simp] theorem journalTrip_envelope (t : Trip) (s : State) : (journalTrip t s).envelope = s.envelope := rfl
@[simp] theorem journalTrip_monitor (t : Trip) (s : State) : (journalTrip t s).monitor = s.monitor := rfl
@[simp] theorem journalTrip_connection (t : Trip) (s : State) : (journalTrip t s).connection = s.connection := rfl
@[simp] theorem journalTrip_zones (t : Trip) (s : State) : (journalTrip t s).zones = s.zones := rfl
@[simp] theorem journalTrip_cooling (t : Trip) (s : State) : (journalTrip t s).cooling = s.cooling := rfl
@[simp] theorem journalTrip_lines (t : Trip) (s : State) : (journalTrip t s).lines = s.lines := rfl
@[simp] theorem journalTrip_stateUnit (t : Trip) (s : State) : (journalTrip t s).stateUnit = s.stateUnit := rfl
@[simp] theorem journalTrip_freeCount (t : Trip) (s : State) : (journalTrip t s).freeCount = s.freeCount := rfl
@[simp] theorem journalTrip_pending (t : Trip) (s : State) : (journalTrip t s).pending = s.pending := rfl

/-! ### placeZone -/

@[simp] theorem placeZone_ring (z : Zone) (r : ZoneRecord) (s : State) : (placeZone z r s).ring = s.ring := rfl
@[simp] theorem placeZone_records (z : Zone) (r : ZoneRecord) (s : State) : (placeZone z r s).records = s.records := rfl
@[simp] theorem placeZone_balance (z : Zone) (r : ZoneRecord) (s : State) : (placeZone z r s).balance = s.balance := rfl
@[simp] theorem placeZone_envelope (z : Zone) (r : ZoneRecord) (s : State) : (placeZone z r s).envelope = s.envelope := rfl
@[simp] theorem placeZone_monitor (z : Zone) (r : ZoneRecord) (s : State) : (placeZone z r s).monitor = s.monitor := rfl
@[simp] theorem placeZone_connection (z : Zone) (r : ZoneRecord) (s : State) : (placeZone z r s).connection = s.connection := rfl
@[simp] theorem placeZone_cooling (z : Zone) (r : ZoneRecord) (s : State) : (placeZone z r s).cooling = s.cooling := rfl
@[simp] theorem placeZone_stateUnit (z : Zone) (r : ZoneRecord) (s : State) : (placeZone z r s).stateUnit = s.stateUnit := rfl
@[simp] theorem placeZone_portUnit (z : Zone) (r : ZoneRecord) (s : State) : (placeZone z r s).portUnit = s.portUnit := rfl
@[simp] theorem placeZone_freeCount (z : Zone) (r : ZoneRecord) (s : State) : (placeZone z r s).freeCount = s.freeCount := rfl
@[simp] theorem placeZone_pending (z : Zone) (r : ZoneRecord) (s : State) : (placeZone z r s).pending = s.pending := rfl

/-! ### setRx -/

@[simp] theorem setRx_records (a : Attempt) (rx : Option (List Byte)) (s : State) : (setRx a rx s).records = s.records := rfl
@[simp] theorem setRx_balance (a : Attempt) (rx : Option (List Byte)) (s : State) : (setRx a rx s).balance = s.balance := rfl
@[simp] theorem setRx_envelope (a : Attempt) (rx : Option (List Byte)) (s : State) : (setRx a rx s).envelope = s.envelope := rfl
@[simp] theorem setRx_monitor (a : Attempt) (rx : Option (List Byte)) (s : State) : (setRx a rx s).monitor = s.monitor := rfl
@[simp] theorem setRx_connection (a : Attempt) (rx : Option (List Byte)) (s : State) : (setRx a rx s).connection = s.connection := rfl
@[simp] theorem setRx_zones (a : Attempt) (rx : Option (List Byte)) (s : State) : (setRx a rx s).zones = s.zones := rfl
@[simp] theorem setRx_cooling (a : Attempt) (rx : Option (List Byte)) (s : State) : (setRx a rx s).cooling = s.cooling := rfl
@[simp] theorem setRx_lines (a : Attempt) (rx : Option (List Byte)) (s : State) : (setRx a rx s).lines = s.lines := rfl
@[simp] theorem setRx_stateUnit (a : Attempt) (rx : Option (List Byte)) (s : State) : (setRx a rx s).stateUnit = s.stateUnit := rfl
@[simp] theorem setRx_portUnit (a : Attempt) (rx : Option (List Byte)) (s : State) : (setRx a rx s).portUnit = s.portUnit := rfl
@[simp] theorem setRx_freeCount (a : Attempt) (rx : Option (List Byte)) (s : State) : (setRx a rx s).freeCount = s.freeCount := rfl
@[simp] theorem setRx_pending (a : Attempt) (rx : Option (List Byte)) (s : State) : (setRx a rx s).pending = s.pending := rfl

/-! ### updateEntry -/

@[simp] theorem updateEntry_records (a : Nat) (f : DirEntry → DirEntry) (s : State) : (updateEntry a f s).records = s.records := rfl
@[simp] theorem updateEntry_balance (a : Nat) (f : DirEntry → DirEntry) (s : State) : (updateEntry a f s).balance = s.balance := rfl
@[simp] theorem updateEntry_envelope (a : Nat) (f : DirEntry → DirEntry) (s : State) : (updateEntry a f s).envelope = s.envelope := rfl
@[simp] theorem updateEntry_monitor (a : Nat) (f : DirEntry → DirEntry) (s : State) : (updateEntry a f s).monitor = s.monitor := rfl
@[simp] theorem updateEntry_connection (a : Nat) (f : DirEntry → DirEntry) (s : State) : (updateEntry a f s).connection = s.connection := rfl
@[simp] theorem updateEntry_zones (a : Nat) (f : DirEntry → DirEntry) (s : State) : (updateEntry a f s).zones = s.zones := rfl
@[simp] theorem updateEntry_cooling (a : Nat) (f : DirEntry → DirEntry) (s : State) : (updateEntry a f s).cooling = s.cooling := rfl
@[simp] theorem updateEntry_lines (a : Nat) (f : DirEntry → DirEntry) (s : State) : (updateEntry a f s).lines = s.lines := rfl
@[simp] theorem updateEntry_stateUnit (a : Nat) (f : DirEntry → DirEntry) (s : State) : (updateEntry a f s).stateUnit = s.stateUnit := rfl
@[simp] theorem updateEntry_portUnit (a : Nat) (f : DirEntry → DirEntry) (s : State) : (updateEntry a f s).portUnit = s.portUnit := rfl
@[simp] theorem updateEntry_freeCount (a : Nat) (f : DirEntry → DirEntry) (s : State) : (updateEntry a f s).freeCount = s.freeCount := rfl
@[simp] theorem updateEntry_pending (a : Nat) (f : DirEntry → DirEntry) (s : State) : (updateEntry a f s).pending = s.pending := rfl

/-! ### beginCycle -/

@[simp] theorem beginCycle_records (s : State) : (beginCycle s).records = s.records := rfl
@[simp] theorem beginCycle_balance (s : State) : (beginCycle s).balance = s.balance := rfl
@[simp] theorem beginCycle_envelope (s : State) : (beginCycle s).envelope = s.envelope := rfl
@[simp] theorem beginCycle_monitor (s : State) : (beginCycle s).monitor = s.monitor := rfl
@[simp] theorem beginCycle_connection (s : State) : (beginCycle s).connection = s.connection := rfl
@[simp] theorem beginCycle_zones (s : State) : (beginCycle s).zones = s.zones := rfl
@[simp] theorem beginCycle_cooling (s : State) : (beginCycle s).cooling = s.cooling := rfl
@[simp] theorem beginCycle_lines (s : State) : (beginCycle s).lines = s.lines := rfl
@[simp] theorem beginCycle_stateUnit (s : State) : (beginCycle s).stateUnit = s.stateUnit := rfl
@[simp] theorem beginCycle_portUnit (s : State) : (beginCycle s).portUnit = s.portUnit := rfl
@[simp] theorem beginCycle_freeCount (s : State) : (beginCycle s).freeCount = s.freeCount := rfl
@[simp] theorem beginCycle_pending (s : State) : (beginCycle s).pending = s.pending := rfl

/-! ### startEnumeration -/

@[simp] theorem startEnumeration_records (s : State) : (startEnumeration s).records = s.records := rfl
@[simp] theorem startEnumeration_balance (s : State) : (startEnumeration s).balance = s.balance := rfl
@[simp] theorem startEnumeration_envelope (s : State) : (startEnumeration s).envelope = s.envelope := rfl
@[simp] theorem startEnumeration_monitor (s : State) : (startEnumeration s).monitor = s.monitor := rfl
@[simp] theorem startEnumeration_connection (s : State) : (startEnumeration s).connection = s.connection := rfl
@[simp] theorem startEnumeration_zones (s : State) : (startEnumeration s).zones = s.zones := rfl
@[simp] theorem startEnumeration_cooling (s : State) : (startEnumeration s).cooling = s.cooling := rfl
@[simp] theorem startEnumeration_lines (s : State) : (startEnumeration s).lines = s.lines := rfl
@[simp] theorem startEnumeration_stateUnit (s : State) : (startEnumeration s).stateUnit = s.stateUnit := rfl
@[simp] theorem startEnumeration_portUnit (s : State) : (startEnumeration s).portUnit = s.portUnit := rfl
@[simp] theorem startEnumeration_freeCount (s : State) : (startEnumeration s).freeCount = s.freeCount := rfl
@[simp] theorem startEnumeration_pending (s : State) : (startEnumeration s).pending = s.pending := rfl

/-! ### takeMode -/

@[simp] theorem takeMode_ring (l : Bool) (m : CoolingMode) (s : State) : (takeMode l m s).ring = s.ring := rfl
@[simp] theorem takeMode_records (l : Bool) (m : CoolingMode) (s : State) : (takeMode l m s).records = s.records := rfl
@[simp] theorem takeMode_balance (l : Bool) (m : CoolingMode) (s : State) : (takeMode l m s).balance = s.balance := rfl
@[simp] theorem takeMode_envelope (l : Bool) (m : CoolingMode) (s : State) : (takeMode l m s).envelope = s.envelope := rfl
@[simp] theorem takeMode_monitor (l : Bool) (m : CoolingMode) (s : State) : (takeMode l m s).monitor = s.monitor := rfl
@[simp] theorem takeMode_connection (l : Bool) (m : CoolingMode) (s : State) : (takeMode l m s).connection = s.connection := rfl
@[simp] theorem takeMode_zones (l : Bool) (m : CoolingMode) (s : State) : (takeMode l m s).zones = s.zones := rfl
@[simp] theorem takeMode_lines (l : Bool) (m : CoolingMode) (s : State) : (takeMode l m s).lines = s.lines := rfl
@[simp] theorem takeMode_stateUnit (l : Bool) (m : CoolingMode) (s : State) : (takeMode l m s).stateUnit = s.stateUnit := rfl
@[simp] theorem takeMode_portUnit (l : Bool) (m : CoolingMode) (s : State) : (takeMode l m s).portUnit = s.portUnit := rfl
@[simp] theorem takeMode_freeCount (l : Bool) (m : CoolingMode) (s : State) : (takeMode l m s).freeCount = s.freeCount := rfl
@[simp] theorem takeMode_pending (l : Bool) (m : CoolingMode) (s : State) : (takeMode l m s).pending = s.pending := rfl

/-! ### takeTemperatures -/

@[simp] theorem takeTemperatures_ring (s : State) : (takeTemperatures s).ring = s.ring := rfl
@[simp] theorem takeTemperatures_records (s : State) : (takeTemperatures s).records = s.records := rfl
@[simp] theorem takeTemperatures_balance (s : State) : (takeTemperatures s).balance = s.balance := rfl
@[simp] theorem takeTemperatures_envelope (s : State) : (takeTemperatures s).envelope = s.envelope := rfl
@[simp] theorem takeTemperatures_monitor (s : State) : (takeTemperatures s).monitor = s.monitor := rfl
@[simp] theorem takeTemperatures_connection (s : State) : (takeTemperatures s).connection = s.connection := rfl
@[simp] theorem takeTemperatures_zones (s : State) : (takeTemperatures s).zones = s.zones := rfl
@[simp] theorem takeTemperatures_lines (s : State) : (takeTemperatures s).lines = s.lines := rfl
@[simp] theorem takeTemperatures_stateUnit (s : State) : (takeTemperatures s).stateUnit = s.stateUnit := rfl
@[simp] theorem takeTemperatures_portUnit (s : State) : (takeTemperatures s).portUnit = s.portUnit := rfl
@[simp] theorem takeTemperatures_freeCount (s : State) : (takeTemperatures s).freeCount = s.freeCount := rfl
@[simp] theorem takeTemperatures_pending (s : State) : (takeTemperatures s).pending = s.pending := rfl

/-! ### rearmLatches -/

@[simp] theorem rearmLatches_ring (s : State) : (rearmLatches s).ring = s.ring := rfl
@[simp] theorem rearmLatches_records (s : State) : (rearmLatches s).records = s.records := rfl
@[simp] theorem rearmLatches_balance (s : State) : (rearmLatches s).balance = s.balance := rfl
@[simp] theorem rearmLatches_envelope (s : State) : (rearmLatches s).envelope = s.envelope := rfl
@[simp] theorem rearmLatches_monitor (s : State) : (rearmLatches s).monitor = s.monitor := rfl
@[simp] theorem rearmLatches_connection (s : State) : (rearmLatches s).connection = s.connection := rfl
@[simp] theorem rearmLatches_zones (s : State) : (rearmLatches s).zones = s.zones := rfl
@[simp] theorem rearmLatches_cooling (s : State) : (rearmLatches s).cooling = s.cooling := rfl
@[simp] theorem rearmLatches_stateUnit (s : State) : (rearmLatches s).stateUnit = s.stateUnit := rfl
@[simp] theorem rearmLatches_portUnit (s : State) : (rearmLatches s).portUnit = s.portUnit := rfl
@[simp] theorem rearmLatches_freeCount (s : State) : (rearmLatches s).freeCount = s.freeCount := rfl
@[simp] theorem rearmLatches_pending (s : State) : (rearmLatches s).pending = s.pending := rfl

/-! ### evaluateBalance -/

@[simp] theorem evaluateBalance_ring (w : Nat → Bool) (s : State) : (evaluateBalance w s).ring = s.ring := rfl
@[simp] theorem evaluateBalance_records (w : Nat → Bool) (s : State) : (evaluateBalance w s).records = s.records := rfl
@[simp] theorem evaluateBalance_envelope (w : Nat → Bool) (s : State) : (evaluateBalance w s).envelope = s.envelope := rfl
@[simp] theorem evaluateBalance_monitor (w : Nat → Bool) (s : State) : (evaluateBalance w s).monitor = s.monitor := rfl
@[simp] theorem evaluateBalance_connection (w : Nat → Bool) (s : State) : (evaluateBalance w s).connection = s.connection := rfl
@[simp] theorem evaluateBalance_zones (w : Nat → Bool) (s : State) : (evaluateBalance w s).zones = s.zones := rfl
@[simp] theorem evaluateBalance_cooling (w : Nat → Bool) (s : State) : (evaluateBalance w s).cooling = s.cooling := rfl
@[simp] theorem evaluateBalance_lines (w : Nat → Bool) (s : State) : (evaluateBalance w s).lines = s.lines := rfl
@[simp] theorem evaluateBalance_stateUnit (w : Nat → Bool) (s : State) : (evaluateBalance w s).stateUnit = s.stateUnit := rfl
@[simp] theorem evaluateBalance_portUnit (w : Nat → Bool) (s : State) : (evaluateBalance w s).portUnit = s.portUnit := rfl
@[simp] theorem evaluateBalance_freeCount (w : Nat → Bool) (s : State) : (evaluateBalance w s).freeCount = s.freeCount := rfl
@[simp] theorem evaluateBalance_pending (w : Nat → Bool) (s : State) : (evaluateBalance w s).pending = s.pending := rfl

/-! ### evaluateZoneBalance -/

@[simp] theorem evaluateZoneBalance_ring (z : Zone) (s : State) : (evaluateZoneBalance z s).ring = s.ring := rfl
@[simp] theorem evaluateZoneBalance_records (z : Zone) (s : State) : (evaluateZoneBalance z s).records = s.records := rfl
@[simp] theorem evaluateZoneBalance_envelope (z : Zone) (s : State) : (evaluateZoneBalance z s).envelope = s.envelope := rfl
@[simp] theorem evaluateZoneBalance_monitor (z : Zone) (s : State) : (evaluateZoneBalance z s).monitor = s.monitor := rfl
@[simp] theorem evaluateZoneBalance_connection (z : Zone) (s : State) : (evaluateZoneBalance z s).connection = s.connection := rfl
@[simp] theorem evaluateZoneBalance_zones (z : Zone) (s : State) : (evaluateZoneBalance z s).zones = s.zones := rfl
@[simp] theorem evaluateZoneBalance_cooling (z : Zone) (s : State) : (evaluateZoneBalance z s).cooling = s.cooling := rfl
@[simp] theorem evaluateZoneBalance_lines (z : Zone) (s : State) : (evaluateZoneBalance z s).lines = s.lines := rfl
@[simp] theorem evaluateZoneBalance_stateUnit (z : Zone) (s : State) : (evaluateZoneBalance z s).stateUnit = s.stateUnit := rfl
@[simp] theorem evaluateZoneBalance_portUnit (z : Zone) (s : State) : (evaluateZoneBalance z s).portUnit = s.portUnit := rfl
@[simp] theorem evaluateZoneBalance_freeCount (z : Zone) (s : State) : (evaluateZoneBalance z s).freeCount = s.freeCount := rfl
@[simp] theorem evaluateZoneBalance_pending (z : Zone) (s : State) : (evaluateZoneBalance z s).pending = s.pending := rfl

/-! ### endAtFloor -/

@[simp] theorem endAtFloor_ring (s : State) : (endAtFloor s).ring = s.ring := rfl
@[simp] theorem endAtFloor_records (s : State) : (endAtFloor s).records = s.records := rfl
@[simp] theorem endAtFloor_envelope (s : State) : (endAtFloor s).envelope = s.envelope := rfl
@[simp] theorem endAtFloor_monitor (s : State) : (endAtFloor s).monitor = s.monitor := rfl
@[simp] theorem endAtFloor_connection (s : State) : (endAtFloor s).connection = s.connection := rfl
@[simp] theorem endAtFloor_zones (s : State) : (endAtFloor s).zones = s.zones := rfl
@[simp] theorem endAtFloor_cooling (s : State) : (endAtFloor s).cooling = s.cooling := rfl
@[simp] theorem endAtFloor_lines (s : State) : (endAtFloor s).lines = s.lines := rfl
@[simp] theorem endAtFloor_stateUnit (s : State) : (endAtFloor s).stateUnit = s.stateUnit := rfl
@[simp] theorem endAtFloor_portUnit (s : State) : (endAtFloor s).portUnit = s.portUnit := rfl
@[simp] theorem endAtFloor_freeCount (s : State) : (endAtFloor s).freeCount = s.freeCount := rfl
@[simp] theorem endAtFloor_pending (s : State) : (endAtFloor s).pending = s.pending := rfl

/-! ### followSingleSource -/

@[simp] theorem followSingleSource_ring (z : Zone) (s : State) : (followSingleSource z s).ring = s.ring := rfl
@[simp] theorem followSingleSource_records (z : Zone) (s : State) : (followSingleSource z s).records = s.records := rfl
@[simp] theorem followSingleSource_balance (z : Zone) (s : State) : (followSingleSource z s).balance = s.balance := rfl
@[simp] theorem followSingleSource_envelope (z : Zone) (s : State) : (followSingleSource z s).envelope = s.envelope := rfl
@[simp] theorem followSingleSource_monitor (z : Zone) (s : State) : (followSingleSource z s).monitor = s.monitor := rfl
@[simp] theorem followSingleSource_connection (z : Zone) (s : State) : (followSingleSource z s).connection = s.connection := rfl
@[simp] theorem followSingleSource_cooling (z : Zone) (s : State) : (followSingleSource z s).cooling = s.cooling := rfl
@[simp] theorem followSingleSource_lines (z : Zone) (s : State) : (followSingleSource z s).lines = s.lines := rfl
@[simp] theorem followSingleSource_stateUnit (z : Zone) (s : State) : (followSingleSource z s).stateUnit = s.stateUnit := rfl
@[simp] theorem followSingleSource_portUnit (z : Zone) (s : State) : (followSingleSource z s).portUnit = s.portUnit := rfl
@[simp] theorem followSingleSource_freeCount (z : Zone) (s : State) : (followSingleSource z s).freeCount = s.freeCount := rfl
@[simp] theorem followSingleSource_pending (z : Zone) (s : State) : (followSingleSource z s).pending = s.pending := rfl

/-! ### followClear -/

@[simp] theorem followClear_ring (z : Zone) (s : State) : (followClear z s).ring = s.ring := rfl
@[simp] theorem followClear_records (z : Zone) (s : State) : (followClear z s).records = s.records := rfl
@[simp] theorem followClear_balance (z : Zone) (s : State) : (followClear z s).balance = s.balance := rfl
@[simp] theorem followClear_envelope (z : Zone) (s : State) : (followClear z s).envelope = s.envelope := rfl
@[simp] theorem followClear_monitor (z : Zone) (s : State) : (followClear z s).monitor = s.monitor := rfl
@[simp] theorem followClear_connection (z : Zone) (s : State) : (followClear z s).connection = s.connection := rfl
@[simp] theorem followClear_cooling (z : Zone) (s : State) : (followClear z s).cooling = s.cooling := rfl
@[simp] theorem followClear_lines (z : Zone) (s : State) : (followClear z s).lines = s.lines := rfl
@[simp] theorem followClear_stateUnit (z : Zone) (s : State) : (followClear z s).stateUnit = s.stateUnit := rfl
@[simp] theorem followClear_portUnit (z : Zone) (s : State) : (followClear z s).portUnit = s.portUnit := rfl
@[simp] theorem followClear_freeCount (z : Zone) (s : State) : (followClear z s).freeCount = s.freeCount := rfl
@[simp] theorem followClear_pending (z : Zone) (s : State) : (followClear z s).pending = s.pending := rfl

/-! ### monitorReport -/

@[simp] theorem monitorReport_ring (o n : ConnState) (s : State) : (monitorReport o n s).ring = s.ring := rfl
@[simp] theorem monitorReport_records (o n : ConnState) (s : State) : (monitorReport o n s).records = s.records := rfl
@[simp] theorem monitorReport_balance (o n : ConnState) (s : State) : (monitorReport o n s).balance = s.balance := rfl
@[simp] theorem monitorReport_envelope (o n : ConnState) (s : State) : (monitorReport o n s).envelope = s.envelope := rfl
@[simp] theorem monitorReport_connection (o n : ConnState) (s : State) : (monitorReport o n s).connection = s.connection := rfl
@[simp] theorem monitorReport_zones (o n : ConnState) (s : State) : (monitorReport o n s).zones = s.zones := rfl
@[simp] theorem monitorReport_cooling (o n : ConnState) (s : State) : (monitorReport o n s).cooling = s.cooling := rfl
@[simp] theorem monitorReport_lines (o n : ConnState) (s : State) : (monitorReport o n s).lines = s.lines := rfl
@[simp] theorem monitorReport_stateUnit (o n : ConnState) (s : State) : (monitorReport o n s).stateUnit = s.stateUnit := rfl
@[simp] theorem monitorReport_portUnit (o n : ConnState) (s : State) : (monitorReport o n s).portUnit = s.portUnit := rfl
@[simp] theorem monitorReport_freeCount (o n : ConnState) (s : State) : (monitorReport o n s).freeCount = s.freeCount := rfl
@[simp] theorem monitorReport_pending (o n : ConnState) (s : State) : (monitorReport o n s).pending = s.pending := rfl

/-! ### What the updates write -/

@[simp] theorem setZone_zones_zones (z : Zone) (r : ZoneRecord) (s : State) :
    (setZone z r s).zones.zones = s.zones.zones.set z r := rfl
@[simp] theorem setZone_channels (z : Zone) (r : ZoneRecord) (s : State) :
    (setZone z r s).zones.channels = s.zones.channels := rfl
@[simp] theorem setPort_ports (p : PortId) (r : PortRecord) (s : State) :
    (setPort p r s).portUnit.ports = s.portUnit.ports.set p r := rfl
@[simp] theorem setPort_journal (p : PortId) (r : PortRecord) (s : State) :
    (setPort p r s).portUnit.journal = s.portUnit.journal := rfl
@[simp] theorem setPort_nextSequence (p : PortId) (r : PortRecord) (s : State) :
    (setPort p r s).portUnit.nextSequence = s.portUnit.nextSequence := rfl
@[simp] theorem setCell_cells (n : Nat) (c : Cell) (s : State) :
    (setCell n c s).records.cells = s.records.cells.set n c := rfl
@[simp] theorem setCell_image (n : Nat) (c : Cell) (s : State) : (setCell n c s).records.image = s.records.image := rfl
@[simp] theorem setSensor_sensors (n : Nat) (t : Sensor) (s : State) :
    (setSensor n t s).records.sensors = s.records.sensors.set n t := rfl
@[simp] theorem setSensor_image (n : Nat) (t : Sensor) (s : State) :
    (setSensor n t s).records.image = s.records.image := rfl
@[simp] theorem setEntry_balance (n : Nat) (e : BalanceEntry) (s : State) :
    (setEntry n e s).balance = s.balance.set n e := rfl
@[simp] theorem setInput_inputs (i : Input) (r : InputRecord) (s : State) :
    (setInput i r s).lines.inputs = s.lines.inputs.set i r := rfl
@[simp] theorem setInput_outputs (i : Input) (r : InputRecord) (s : State) :
    (setInput i r s).lines.outputs = s.lines.outputs := rfl
@[simp] theorem setInput_sample (i : Input) (r : InputRecord) (s : State) :
    (setInput i r s).lines.sample = s.lines.sample := rfl
@[simp] theorem raise_ports (n : Notice) (s : State) :
    (raise n s).portUnit.ports = s.portUnit.ports.map (PortRecord.raise n) := rfl
@[simp] theorem raise_journal (n : Notice) (s : State) : (raise n s).portUnit.journal = s.portUnit.journal := rfl
@[simp] theorem raise_nextSequence (n : Notice) (s : State) :
    (raise n s).portUnit.nextSequence = s.portUnit.nextSequence := rfl
@[simp] theorem append_journal (e : Entry) (s : State) :
    (append e s).portUnit.journal = placeRecord s.portUnit.journal (recordOf e s) := rfl
@[simp] theorem append_nextSequence (e : Entry) (s : State) :
    (append e s).portUnit.nextSequence = s.portUnit.nextSequence + 1 := rfl
@[simp] theorem append_ports (e : Entry) (s : State) :
    (append e s).portUnit.ports = s.portUnit.ports.map (PortRecord.raise .journal) := rfl
@[simp] theorem placeZone_zones_zones (z : Zone) (r : ZoneRecord) (s : State) :
    (placeZone z r s).zones.zones = s.zones.zones.set z r := rfl
@[simp] theorem placeZone_agent (z : Zone) (r : ZoneRecord) (s : State) :
    (placeZone z r s).lines.outputs.agent = s.lines.outputs.agent.set z (r.state == .released) := rfl

/-! ### Families -/

@[simp] theorem PerZone.get_set_same {α : Type} (f : PerZone α) (z : Zone) (v : α) : (f.set z v).get z = v := by
  cases z <;> rfl

theorem PerZone.get_set_other {α : Type} (f : PerZone α) (z w : Zone) (v : α) (h : w ≠ z) :
    (f.set z v).get w = f.get w := by
  cases z <;> cases w <;> first | rfl | exact absurd rfl h

@[simp] theorem PerZone.get_of {α : Type} (g : Zone → α) (z : Zone) : (PerZone.of g).get z = g z := by cases z <;> rfl

@[simp] theorem PerPort.get_set_same {α : Type} (f : PerPort α) (p : PortId) (v : α) : (f.set p v).get p = v := by
  cases p <;> rfl

theorem PerPort.get_set_other {α : Type} (f : PerPort α) (p q : PortId) (v : α) (h : q ≠ p) :
    (f.set p v).get q = f.get q := by
  cases p <;> cases q <;> first | rfl | exact absurd rfl h

@[simp] theorem PerPort.get_map {α β : Type} (g : α → β) (f : PerPort α) (p : PortId) :
    (f.map g).get p = g (f.get p) := by cases p <;> rfl

@[simp] theorem perInput_get_set_same {α : Type} (f : PerInput α) (i : Input) (v : α) : (f.set i v).get i = v := by
  cases i <;> rfl

theorem perInput_get_set_other {α : Type} (f : PerInput α) (i j : Input) (v : α) (h : j ≠ i) :
    (f.set i v).get j = f.get j := by
  cases i <;> cases j <;> first | rfl | exact absurd rfl h

@[simp] theorem perInput_get_of {α : Type} (g : Input → α) (i : Input) : (PerInput.of g).get i = g i := by
  cases i <;> rfl

end Sys2Proof.Machine
end

