-- ==== Sys2Proof/Laws/Frames.lean ====
section
/-! SUPPORT. The frame of each shared operation: one lemma for each part of the state it leaves alone. Later proofs
rewrite with these and unfold no operation to learn what it does not touch. -/

namespace Sys2Proof.Machine

@[simp] theorem driveConnection_frame (c : ConnState) (o : Outputs) :
    (driveConnection c o).agent = o.agent ∧ (driveConnection c o).rackFans = o.rackFans ∧
    (driveConnection c o).pump = o.pump ∧ (driveConnection c o).exhaust = o.exhaust ∧
    (driveConnection c o).condenser = o.condenser ∧ (driveConnection c o).chillerRun = o.chillerRun ∧
    (driveConnection c o).heater = o.heater ∧ (driveConnection c o).dampersOpen = o.dampersOpen := by
  cases c <;> simp [driveConnection]

@[simp] theorem compute_frame (full : Bool) (s : State) :
    (compute full s).ring = s.ring ∧ (compute full s).records = s.records ∧ (compute full s).balance = s.balance ∧
    (compute full s).monitor = s.monitor ∧ (compute full s).connection = s.connection ∧
    (compute full s).zones = s.zones ∧ (compute full s).cooling = s.cooling ∧ (compute full s).lines = s.lines ∧
    (compute full s).stateUnit = s.stateUnit ∧ (compute full s).freeCount = s.freeCount ∧
    (compute full s).pending = s.pending := by
  simp only [compute]; (repeat' split) <;> simp

@[simp] theorem capInputChanged_frame (s : State) :
    (capInputChanged s).ring = s.ring ∧ (capInputChanged s).records = s.records ∧
    (capInputChanged s).balance = s.balance ∧ (capInputChanged s).monitor = s.monitor ∧
    (capInputChanged s).connection = s.connection ∧ (capInputChanged s).zones = s.zones ∧
    (capInputChanged s).cooling = s.cooling ∧ (capInputChanged s).lines = s.lines ∧
    (capInputChanged s).stateUnit = s.stateUnit ∧ (capInputChanged s).freeCount = s.freeCount ∧
    (capInputChanged s).pending = s.pending := by
  simp [capInputChanged]

@[simp] theorem fullComputation_frame (s : State) :
    (fullComputation s).ring = s.ring ∧ (fullComputation s).records = s.records ∧
    (fullComputation s).balance = s.balance ∧ (fullComputation s).monitor = s.monitor ∧
    (fullComputation s).connection = s.connection ∧ (fullComputation s).zones = s.zones ∧
    (fullComputation s).cooling = s.cooling ∧ (fullComputation s).lines = s.lines ∧
    (fullComputation s).stateUnit = s.stateUnit ∧ (fullComputation s).freeCount = s.freeCount ∧
    (fullComputation s).pending = s.pending := by
  simp [fullComputation]

@[simp] theorem enterState_frame (new : ConnState) (s : State) :
    (enterState new s).ring = s.ring ∧ (enterState new s).records = s.records ∧
    (enterState new s).balance = s.balance ∧ (enterState new s).zones = s.zones ∧
    (enterState new s).cooling = s.cooling ∧ (enterState new s).stateUnit = s.stateUnit ∧
    (enterState new s).freeCount = s.freeCount ∧ (enterState new s).pending = s.pending ∧
    (enterState new s).connection.permit = s.connection.permit ∧ (enterState new s).lines.inputs = s.lines.inputs ∧
    (enterState new s).lines.sample = s.lines.sample ∧ (enterState new s).lines.coolant = s.lines.coolant ∧
    (enterState new s).lines.timeBase = s.lines.timeBase ∧ (enterState new s).lines.minute = s.lines.minute ∧
    (enterState new s).lines.outputs.agent = s.lines.outputs.agent ∧
    (enterState new s).lines.outputs.rackFans = s.lines.outputs.rackFans ∧
    (enterState new s).lines.outputs.pump = s.lines.outputs.pump ∧
    (enterState new s).lines.outputs.exhaust = s.lines.outputs.exhaust ∧
    (enterState new s).lines.outputs.condenser = s.lines.outputs.condenser ∧
    (enterState new s).lines.outputs.chillerRun = s.lines.outputs.chillerRun ∧
    (enterState new s).lines.outputs.heater = s.lines.outputs.heater ∧
    (enterState new s).lines.outputs.dampersOpen = s.lines.outputs.dampersOpen := by
  simp [enterState]

@[simp] theorem enterLockout_frame (c : LockoutCause) (z : Option Zone) (k : Option Contactor) (o : Option Origin) (s : State) :
    (enterLockout c z k o s).ring = s.ring ∧ (enterLockout c z k o s).records = s.records ∧
    (enterLockout c z k o s).balance = s.balance ∧ (enterLockout c z k o s).zones = s.zones ∧
    (enterLockout c z k o s).cooling = s.cooling ∧ (enterLockout c z k o s).stateUnit = s.stateUnit ∧
    (enterLockout c z k o s).freeCount = s.freeCount ∧ (enterLockout c z k o s).pending = s.pending ∧
    (enterLockout c z k o s).connection.permit = s.connection.permit ∧
    (enterLockout c z k o s).lines.inputs = s.lines.inputs ∧ (enterLockout c z k o s).lines.sample = s.lines.sample ∧
    (enterLockout c z k o s).lines.coolant = s.lines.coolant ∧
    (enterLockout c z k o s).lines.timeBase = s.lines.timeBase ∧
    (enterLockout c z k o s).lines.minute = s.lines.minute ∧
    (enterLockout c z k o s).lines.outputs.agent = s.lines.outputs.agent ∧
    (enterLockout c z k o s).lines.outputs.rackFans = s.lines.outputs.rackFans ∧
    (enterLockout c z k o s).lines.outputs.pump = s.lines.outputs.pump ∧
    (enterLockout c z k o s).lines.outputs.exhaust = s.lines.outputs.exhaust ∧
    (enterLockout c z k o s).lines.outputs.condenser = s.lines.outputs.condenser ∧
    (enterLockout c z k o s).lines.outputs.chillerRun = s.lines.outputs.chillerRun ∧
    (enterLockout c z k o s).lines.outputs.heater = s.lines.outputs.heater ∧
    (enterLockout c z k o s).lines.outputs.dampersOpen = s.lines.outputs.dampersOpen := by
  simp [enterLockout]

@[simp] theorem endOpening_frame (o : Opening) (s : State) :
    (endOpening o s).ring = s.ring ∧ (endOpening o s).records = s.records ∧ (endOpening o s).balance = s.balance ∧
    (endOpening o s).zones = s.zones ∧ (endOpening o s).cooling = s.cooling ∧
    (endOpening o s).stateUnit = s.stateUnit ∧ (endOpening o s).freeCount = s.freeCount ∧
    (endOpening o s).pending = s.pending ∧ (endOpening o s).connection.permit = s.connection.permit ∧
    (endOpening o s).lines.inputs = s.lines.inputs ∧ (endOpening o s).lines.sample = s.lines.sample ∧
    (endOpening o s).lines.coolant = s.lines.coolant ∧ (endOpening o s).lines.timeBase = s.lines.timeBase ∧
    (endOpening o s).lines.minute = s.lines.minute ∧ (endOpening o s).lines.outputs.agent = s.lines.outputs.agent ∧
    (endOpening o s).lines.outputs.rackFans = s.lines.outputs.rackFans ∧
    (endOpening o s).lines.outputs.pump = s.lines.outputs.pump ∧
    (endOpening o s).lines.outputs.exhaust = s.lines.outputs.exhaust ∧
    (endOpening o s).lines.outputs.condenser = s.lines.outputs.condenser ∧
    (endOpening o s).lines.outputs.chillerRun = s.lines.outputs.chillerRun ∧
    (endOpening o s).lines.outputs.heater = s.lines.outputs.heater ∧
    (endOpening o s).lines.outputs.dampersOpen = s.lines.outputs.dampersOpen := by
  simp only [endOpening]; (repeat' split) <;> simp

@[simp] theorem openingCheck_frame (s : State) :
    (openingCheck s).ring = s.ring ∧ (openingCheck s).records = s.records ∧ (openingCheck s).balance = s.balance ∧
    (openingCheck s).zones = s.zones ∧ (openingCheck s).cooling = s.cooling ∧
    (openingCheck s).stateUnit = s.stateUnit ∧ (openingCheck s).freeCount = s.freeCount ∧
    (openingCheck s).pending = s.pending ∧ (openingCheck s).connection.permit = s.connection.permit ∧
    (openingCheck s).lines.inputs = s.lines.inputs ∧ (openingCheck s).lines.sample = s.lines.sample ∧
    (openingCheck s).lines.coolant = s.lines.coolant ∧ (openingCheck s).lines.timeBase = s.lines.timeBase ∧
    (openingCheck s).lines.minute = s.lines.minute ∧ (openingCheck s).lines.outputs.agent = s.lines.outputs.agent ∧
    (openingCheck s).lines.outputs.rackFans = s.lines.outputs.rackFans ∧
    (openingCheck s).lines.outputs.pump = s.lines.outputs.pump ∧
    (openingCheck s).lines.outputs.exhaust = s.lines.outputs.exhaust ∧
    (openingCheck s).lines.outputs.condenser = s.lines.outputs.condenser ∧
    (openingCheck s).lines.outputs.chillerRun = s.lines.outputs.chillerRun ∧
    (openingCheck s).lines.outputs.heater = s.lines.outputs.heater ∧
    (openingCheck s).lines.outputs.dampersOpen = s.lines.outputs.dampersOpen := by
  simp only [openingCheck]; (repeat' split) <;> simp

@[simp] theorem startOpening_frame (o : Opening) (s : State) :
    (startOpening o s).ring = s.ring ∧ (startOpening o s).records = s.records ∧
    (startOpening o s).balance = s.balance ∧ (startOpening o s).zones = s.zones ∧
    (startOpening o s).cooling = s.cooling ∧ (startOpening o s).stateUnit = s.stateUnit ∧
    (startOpening o s).freeCount = s.freeCount ∧ (startOpening o s).pending = s.pending ∧
    (startOpening o s).connection.permit = s.connection.permit ∧ (startOpening o s).lines.inputs = s.lines.inputs ∧
    (startOpening o s).lines.sample = s.lines.sample ∧ (startOpening o s).lines.coolant = s.lines.coolant ∧
    (startOpening o s).lines.timeBase = s.lines.timeBase ∧ (startOpening o s).lines.minute = s.lines.minute ∧
    (startOpening o s).lines.outputs.agent = s.lines.outputs.agent ∧
    (startOpening o s).lines.outputs.rackFans = s.lines.outputs.rackFans ∧
    (startOpening o s).lines.outputs.pump = s.lines.outputs.pump ∧
    (startOpening o s).lines.outputs.exhaust = s.lines.outputs.exhaust ∧
    (startOpening o s).lines.outputs.condenser = s.lines.outputs.condenser ∧
    (startOpening o s).lines.outputs.chillerRun = s.lines.outputs.chillerRun ∧
    (startOpening o s).lines.outputs.heater = s.lines.outputs.heater ∧
    (startOpening o s).lines.outputs.dampersOpen = s.lines.outputs.dampersOpen := by
  simp [startOpening]

@[simp] theorem enterOpening_frame (o : Opening) (s : State) :
    (enterOpening o s).ring = s.ring ∧ (enterOpening o s).records = s.records ∧
    (enterOpening o s).balance = s.balance ∧ (enterOpening o s).zones = s.zones ∧
    (enterOpening o s).cooling = s.cooling ∧ (enterOpening o s).stateUnit = s.stateUnit ∧
    (enterOpening o s).freeCount = s.freeCount ∧ (enterOpening o s).pending = s.pending ∧
    (enterOpening o s).connection.permit = s.connection.permit ∧ (enterOpening o s).lines.inputs = s.lines.inputs ∧
    (enterOpening o s).lines.sample = s.lines.sample ∧ (enterOpening o s).lines.coolant = s.lines.coolant ∧
    (enterOpening o s).lines.timeBase = s.lines.timeBase ∧ (enterOpening o s).lines.minute = s.lines.minute ∧
    (enterOpening o s).lines.outputs.agent = s.lines.outputs.agent ∧
    (enterOpening o s).lines.outputs.rackFans = s.lines.outputs.rackFans ∧
    (enterOpening o s).lines.outputs.pump = s.lines.outputs.pump ∧
    (enterOpening o s).lines.outputs.exhaust = s.lines.outputs.exhaust ∧
    (enterOpening o s).lines.outputs.condenser = s.lines.outputs.condenser ∧
    (enterOpening o s).lines.outputs.chillerRun = s.lines.outputs.chillerRun ∧
    (enterOpening o s).lines.outputs.heater = s.lines.outputs.heater ∧
    (enterOpening o s).lines.outputs.dampersOpen = s.lines.outputs.dampersOpen := by
  simp [enterOpening]

@[simp] theorem shedCheck_frame (s : State) :
    (shedCheck s).ring = s.ring ∧ (shedCheck s).records = s.records ∧ (shedCheck s).balance = s.balance ∧
    (shedCheck s).zones = s.zones ∧ (shedCheck s).cooling = s.cooling ∧ (shedCheck s).stateUnit = s.stateUnit ∧
    (shedCheck s).freeCount = s.freeCount ∧ (shedCheck s).pending = s.pending ∧
    (shedCheck s).connection.permit = s.connection.permit ∧ (shedCheck s).lines.inputs = s.lines.inputs ∧
    (shedCheck s).lines.sample = s.lines.sample ∧ (shedCheck s).lines.coolant = s.lines.coolant ∧
    (shedCheck s).lines.timeBase = s.lines.timeBase ∧ (shedCheck s).lines.minute = s.lines.minute ∧
    (shedCheck s).lines.outputs.agent = s.lines.outputs.agent ∧
    (shedCheck s).lines.outputs.rackFans = s.lines.outputs.rackFans ∧
    (shedCheck s).lines.outputs.pump = s.lines.outputs.pump ∧
    (shedCheck s).lines.outputs.exhaust = s.lines.outputs.exhaust ∧
    (shedCheck s).lines.outputs.condenser = s.lines.outputs.condenser ∧
    (shedCheck s).lines.outputs.chillerRun = s.lines.outputs.chillerRun ∧
    (shedCheck s).lines.outputs.heater = s.lines.outputs.heater ∧
    (shedCheck s).lines.outputs.dampersOpen = s.lines.outputs.dampersOpen := by
  simp only [shedCheck]; (repeat' split) <;> simp

@[simp] theorem enterShedding_frame (o : Opening) (s : State) :
    (enterShedding o s).ring = s.ring ∧ (enterShedding o s).records = s.records ∧
    (enterShedding o s).balance = s.balance ∧ (enterShedding o s).zones = s.zones ∧
    (enterShedding o s).cooling = s.cooling ∧ (enterShedding o s).stateUnit = s.stateUnit ∧
    (enterShedding o s).freeCount = s.freeCount ∧ (enterShedding o s).pending = s.pending ∧
    (enterShedding o s).connection.permit = s.connection.permit ∧ (enterShedding o s).lines.inputs = s.lines.inputs ∧
    (enterShedding o s).lines.sample = s.lines.sample ∧ (enterShedding o s).lines.coolant = s.lines.coolant ∧
    (enterShedding o s).lines.timeBase = s.lines.timeBase ∧ (enterShedding o s).lines.minute = s.lines.minute ∧
    (enterShedding o s).lines.outputs.agent = s.lines.outputs.agent ∧
    (enterShedding o s).lines.outputs.rackFans = s.lines.outputs.rackFans ∧
    (enterShedding o s).lines.outputs.pump = s.lines.outputs.pump ∧
    (enterShedding o s).lines.outputs.exhaust = s.lines.outputs.exhaust ∧
    (enterShedding o s).lines.outputs.condenser = s.lines.outputs.condenser ∧
    (enterShedding o s).lines.outputs.chillerRun = s.lines.outputs.chillerRun ∧
    (enterShedding o s).lines.outputs.heater = s.lines.outputs.heater ∧
    (enterShedding o s).lines.outputs.dampersOpen = s.lines.outputs.dampersOpen := by
  simp [enterShedding]

@[simp] theorem journalCloseFailed_frame (c : JournalCause) (z : Option Zone) (l : Option Location) (s : State) :
    (journalCloseFailed c z l s).ring = s.ring ∧ (journalCloseFailed c z l s).records = s.records ∧
    (journalCloseFailed c z l s).balance = s.balance ∧ (journalCloseFailed c z l s).envelope = s.envelope ∧
    (journalCloseFailed c z l s).monitor = s.monitor ∧ (journalCloseFailed c z l s).connection = s.connection ∧
    (journalCloseFailed c z l s).zones = s.zones ∧ (journalCloseFailed c z l s).cooling = s.cooling ∧
    (journalCloseFailed c z l s).lines = s.lines ∧ (journalCloseFailed c z l s).stateUnit = s.stateUnit ∧
    (journalCloseFailed c z l s).freeCount = s.freeCount ∧ (journalCloseFailed c z l s).pending = s.pending := by
  simp [journalCloseFailed]

@[simp] theorem abortByTrip_frame (t : Trip) (s : State) :
    (abortByTrip t s).ring = s.ring ∧ (abortByTrip t s).records = s.records ∧ (abortByTrip t s).balance = s.balance ∧
    (abortByTrip t s).zones = s.zones ∧ (abortByTrip t s).cooling = s.cooling ∧
    (abortByTrip t s).stateUnit = s.stateUnit ∧ (abortByTrip t s).freeCount = s.freeCount ∧
    (abortByTrip t s).pending = s.pending ∧ (abortByTrip t s).connection.permit = s.connection.permit ∧
    (abortByTrip t s).lines.inputs = s.lines.inputs ∧ (abortByTrip t s).lines.sample = s.lines.sample ∧
    (abortByTrip t s).lines.coolant = s.lines.coolant ∧ (abortByTrip t s).lines.timeBase = s.lines.timeBase ∧
    (abortByTrip t s).lines.minute = s.lines.minute ∧ (abortByTrip t s).lines.outputs.agent = s.lines.outputs.agent ∧
    (abortByTrip t s).lines.outputs.rackFans = s.lines.outputs.rackFans ∧
    (abortByTrip t s).lines.outputs.pump = s.lines.outputs.pump ∧
    (abortByTrip t s).lines.outputs.exhaust = s.lines.outputs.exhaust ∧
    (abortByTrip t s).lines.outputs.condenser = s.lines.outputs.condenser ∧
    (abortByTrip t s).lines.outputs.chillerRun = s.lines.outputs.chillerRun ∧
    (abortByTrip t s).lines.outputs.heater = s.lines.outputs.heater ∧
    (abortByTrip t s).lines.outputs.dampersOpen = s.lines.outputs.dampersOpen := by
  simp [abortByTrip]

@[simp] theorem takeTrip_frame (t : Trip) (s : State) :
    (takeTrip t s).ring = s.ring ∧ (takeTrip t s).records = s.records ∧ (takeTrip t s).balance = s.balance ∧
    (takeTrip t s).zones = s.zones ∧ (takeTrip t s).cooling = s.cooling ∧ (takeTrip t s).stateUnit = s.stateUnit ∧
    (takeTrip t s).freeCount = s.freeCount ∧ (takeTrip t s).pending = s.pending ∧
    (takeTrip t s).connection.permit = s.connection.permit ∧ (takeTrip t s).lines.inputs = s.lines.inputs ∧
    (takeTrip t s).lines.sample = s.lines.sample ∧ (takeTrip t s).lines.coolant = s.lines.coolant ∧
    (takeTrip t s).lines.timeBase = s.lines.timeBase ∧ (takeTrip t s).lines.minute = s.lines.minute ∧
    (takeTrip t s).lines.outputs.agent = s.lines.outputs.agent ∧
    (takeTrip t s).lines.outputs.rackFans = s.lines.outputs.rackFans ∧
    (takeTrip t s).lines.outputs.pump = s.lines.outputs.pump ∧
    (takeTrip t s).lines.outputs.exhaust = s.lines.outputs.exhaust ∧
    (takeTrip t s).lines.outputs.condenser = s.lines.outputs.condenser ∧
    (takeTrip t s).lines.outputs.chillerRun = s.lines.outputs.chillerRun ∧
    (takeTrip t s).lines.outputs.heater = s.lines.outputs.heater ∧
    (takeTrip t s).lines.outputs.dampersOpen = s.lines.outputs.dampersOpen := by
  simp only [takeTrip]; (repeat' split) <;> simp

@[simp] theorem failClose_frame (f : CloseFailure) (s : State) :
    (failClose f s).ring = s.ring ∧ (failClose f s).records = s.records ∧ (failClose f s).balance = s.balance ∧
    (failClose f s).zones = s.zones ∧ (failClose f s).cooling = s.cooling ∧ (failClose f s).stateUnit = s.stateUnit ∧
    (failClose f s).freeCount = s.freeCount ∧ (failClose f s).pending = s.pending ∧
    (failClose f s).connection.permit = s.connection.permit ∧ (failClose f s).lines.inputs = s.lines.inputs ∧
    (failClose f s).lines.sample = s.lines.sample ∧ (failClose f s).lines.coolant = s.lines.coolant ∧
    (failClose f s).lines.timeBase = s.lines.timeBase ∧ (failClose f s).lines.minute = s.lines.minute ∧
    (failClose f s).lines.outputs.agent = s.lines.outputs.agent ∧
    (failClose f s).lines.outputs.rackFans = s.lines.outputs.rackFans ∧
    (failClose f s).lines.outputs.pump = s.lines.outputs.pump ∧
    (failClose f s).lines.outputs.exhaust = s.lines.outputs.exhaust ∧
    (failClose f s).lines.outputs.condenser = s.lines.outputs.condenser ∧
    (failClose f s).lines.outputs.chillerRun = s.lines.outputs.chillerRun ∧
    (failClose f s).lines.outputs.heater = s.lines.outputs.heater ∧
    (failClose f s).lines.outputs.dampersOpen = s.lines.outputs.dampersOpen := by
  simp [failClose]

@[simp] theorem completeClose_frame (s : State) :
    (completeClose s).ring = s.ring ∧ (completeClose s).records = s.records ∧ (completeClose s).balance = s.balance ∧
    (completeClose s).zones = s.zones ∧ (completeClose s).cooling = s.cooling ∧
    (completeClose s).stateUnit = s.stateUnit ∧ (completeClose s).freeCount = s.freeCount ∧
    (completeClose s).pending = s.pending ∧ (completeClose s).connection.permit = s.connection.permit ∧
    (completeClose s).lines.inputs = s.lines.inputs ∧ (completeClose s).lines.sample = s.lines.sample ∧
    (completeClose s).lines.coolant = s.lines.coolant ∧ (completeClose s).lines.timeBase = s.lines.timeBase ∧
    (completeClose s).lines.minute = s.lines.minute ∧ (completeClose s).lines.outputs.agent = s.lines.outputs.agent ∧
    (completeClose s).lines.outputs.rackFans = s.lines.outputs.rackFans ∧
    (completeClose s).lines.outputs.pump = s.lines.outputs.pump ∧
    (completeClose s).lines.outputs.exhaust = s.lines.outputs.exhaust ∧
    (completeClose s).lines.outputs.condenser = s.lines.outputs.condenser ∧
    (completeClose s).lines.outputs.chillerRun = s.lines.outputs.chillerRun ∧
    (completeClose s).lines.outputs.heater = s.lines.outputs.heater ∧
    (completeClose s).lines.outputs.dampersOpen = s.lines.outputs.dampersOpen := by
  simp [completeClose]

@[simp] theorem enterClosing_frame (s : State) :
    (enterClosing s).ring = s.ring ∧ (enterClosing s).records = s.records ∧ (enterClosing s).balance = s.balance ∧
    (enterClosing s).zones = s.zones ∧ (enterClosing s).cooling = s.cooling ∧
    (enterClosing s).stateUnit = s.stateUnit ∧ (enterClosing s).freeCount = s.freeCount ∧
    (enterClosing s).pending = s.pending ∧ (enterClosing s).connection.permit = s.connection.permit ∧
    (enterClosing s).lines.inputs = s.lines.inputs ∧ (enterClosing s).lines.sample = s.lines.sample ∧
    (enterClosing s).lines.coolant = s.lines.coolant ∧ (enterClosing s).lines.timeBase = s.lines.timeBase ∧
    (enterClosing s).lines.minute = s.lines.minute ∧ (enterClosing s).lines.outputs.agent = s.lines.outputs.agent ∧
    (enterClosing s).lines.outputs.rackFans = s.lines.outputs.rackFans ∧
    (enterClosing s).lines.outputs.pump = s.lines.outputs.pump ∧
    (enterClosing s).lines.outputs.exhaust = s.lines.outputs.exhaust ∧
    (enterClosing s).lines.outputs.condenser = s.lines.outputs.condenser ∧
    (enterClosing s).lines.outputs.chillerRun = s.lines.outputs.chillerRun ∧
    (enterClosing s).lines.outputs.heater = s.lines.outputs.heater ∧
    (enterClosing s).lines.outputs.dampersOpen = s.lines.outputs.dampersOpen := by
  simp only [enterClosing]; (repeat' split) <;> simp

@[simp] theorem prechargeCheck_frame (s : State) :
    (prechargeCheck s).ring = s.ring ∧ (prechargeCheck s).records = s.records ∧
    (prechargeCheck s).balance = s.balance ∧ (prechargeCheck s).zones = s.zones ∧
    (prechargeCheck s).cooling = s.cooling ∧ (prechargeCheck s).stateUnit = s.stateUnit ∧
    (prechargeCheck s).freeCount = s.freeCount ∧ (prechargeCheck s).pending = s.pending ∧
    (prechargeCheck s).connection.permit = s.connection.permit ∧ (prechargeCheck s).lines.inputs = s.lines.inputs ∧
    (prechargeCheck s).lines.sample = s.lines.sample ∧ (prechargeCheck s).lines.coolant = s.lines.coolant ∧
    (prechargeCheck s).lines.timeBase = s.lines.timeBase ∧ (prechargeCheck s).lines.minute = s.lines.minute ∧
    (prechargeCheck s).lines.outputs.agent = s.lines.outputs.agent ∧
    (prechargeCheck s).lines.outputs.rackFans = s.lines.outputs.rackFans ∧
    (prechargeCheck s).lines.outputs.pump = s.lines.outputs.pump ∧
    (prechargeCheck s).lines.outputs.exhaust = s.lines.outputs.exhaust ∧
    (prechargeCheck s).lines.outputs.condenser = s.lines.outputs.condenser ∧
    (prechargeCheck s).lines.outputs.chillerRun = s.lines.outputs.chillerRun ∧
    (prechargeCheck s).lines.outputs.heater = s.lines.outputs.heater ∧
    (prechargeCheck s).lines.outputs.dampersOpen = s.lines.outputs.dampersOpen := by
  simp only [prechargeCheck]; (repeat' split) <;> simp

@[simp] theorem confirmNeg_frame (s : State) :
    (confirmNeg s).ring = s.ring ∧ (confirmNeg s).records = s.records ∧ (confirmNeg s).balance = s.balance ∧
    (confirmNeg s).zones = s.zones ∧ (confirmNeg s).cooling = s.cooling ∧ (confirmNeg s).stateUnit = s.stateUnit ∧
    (confirmNeg s).freeCount = s.freeCount ∧ (confirmNeg s).pending = s.pending ∧
    (confirmNeg s).connection.permit = s.connection.permit ∧ (confirmNeg s).lines.inputs = s.lines.inputs ∧
    (confirmNeg s).lines.sample = s.lines.sample ∧ (confirmNeg s).lines.coolant = s.lines.coolant ∧
    (confirmNeg s).lines.timeBase = s.lines.timeBase ∧ (confirmNeg s).lines.minute = s.lines.minute ∧
    (confirmNeg s).lines.outputs.agent = s.lines.outputs.agent ∧
    (confirmNeg s).lines.outputs.rackFans = s.lines.outputs.rackFans ∧
    (confirmNeg s).lines.outputs.pump = s.lines.outputs.pump ∧
    (confirmNeg s).lines.outputs.exhaust = s.lines.outputs.exhaust ∧
    (confirmNeg s).lines.outputs.condenser = s.lines.outputs.condenser ∧
    (confirmNeg s).lines.outputs.chillerRun = s.lines.outputs.chillerRun ∧
    (confirmNeg s).lines.outputs.heater = s.lines.outputs.heater ∧
    (confirmNeg s).lines.outputs.dampersOpen = s.lines.outputs.dampersOpen := by
  simp [confirmNeg]

@[simp] theorem enterPrecharging_frame (c : CloseContext) (s : State) :
    (enterPrecharging c s).ring = s.ring ∧ (enterPrecharging c s).records = s.records ∧
    (enterPrecharging c s).balance = s.balance ∧ (enterPrecharging c s).zones = s.zones ∧
    (enterPrecharging c s).cooling = s.cooling ∧ (enterPrecharging c s).stateUnit = s.stateUnit ∧
    (enterPrecharging c s).freeCount = s.freeCount ∧ (enterPrecharging c s).pending = s.pending ∧
    (enterPrecharging c s).connection.permit = s.connection.permit ∧
    (enterPrecharging c s).lines.inputs = s.lines.inputs ∧ (enterPrecharging c s).lines.sample = s.lines.sample ∧
    (enterPrecharging c s).lines.coolant = s.lines.coolant ∧
    (enterPrecharging c s).lines.timeBase = s.lines.timeBase ∧ (enterPrecharging c s).lines.minute = s.lines.minute ∧
    (enterPrecharging c s).lines.outputs.agent = s.lines.outputs.agent ∧
    (enterPrecharging c s).lines.outputs.rackFans = s.lines.outputs.rackFans ∧
    (enterPrecharging c s).lines.outputs.pump = s.lines.outputs.pump ∧
    (enterPrecharging c s).lines.outputs.exhaust = s.lines.outputs.exhaust ∧
    (enterPrecharging c s).lines.outputs.condenser = s.lines.outputs.condenser ∧
    (enterPrecharging c s).lines.outputs.chillerRun = s.lines.outputs.chillerRun ∧
    (enterPrecharging c s).lines.outputs.heater = s.lines.outputs.heater ∧
    (enterPrecharging c s).lines.outputs.dampersOpen = s.lines.outputs.dampersOpen := by
  simp only [enterPrecharging]; (repeat' split) <;> simp

@[simp] theorem auxChanged_frame (c : Contactor) (l : Bool) (s : State) :
    (auxChanged c l s).ring = s.ring ∧ (auxChanged c l s).records = s.records ∧
    (auxChanged c l s).balance = s.balance ∧ (auxChanged c l s).zones = s.zones ∧
    (auxChanged c l s).cooling = s.cooling ∧ (auxChanged c l s).stateUnit = s.stateUnit ∧
    (auxChanged c l s).freeCount = s.freeCount ∧ (auxChanged c l s).pending = s.pending ∧
    (auxChanged c l s).connection.permit = s.connection.permit ∧ (auxChanged c l s).lines.inputs = s.lines.inputs ∧
    (auxChanged c l s).lines.sample = s.lines.sample ∧ (auxChanged c l s).lines.coolant = s.lines.coolant ∧
    (auxChanged c l s).lines.timeBase = s.lines.timeBase ∧ (auxChanged c l s).lines.minute = s.lines.minute ∧
    (auxChanged c l s).lines.outputs.agent = s.lines.outputs.agent ∧
    (auxChanged c l s).lines.outputs.rackFans = s.lines.outputs.rackFans ∧
    (auxChanged c l s).lines.outputs.pump = s.lines.outputs.pump ∧
    (auxChanged c l s).lines.outputs.exhaust = s.lines.outputs.exhaust ∧
    (auxChanged c l s).lines.outputs.condenser = s.lines.outputs.condenser ∧
    (auxChanged c l s).lines.outputs.chillerRun = s.lines.outputs.chillerRun ∧
    (auxChanged c l s).lines.outputs.heater = s.lines.outputs.heater ∧
    (auxChanged c l s).lines.outputs.dampersOpen = s.lines.outputs.dampersOpen := by
  simp only [auxChanged]; (repeat' split) <;> simp

@[simp] theorem estopChanged_frame (l : Bool) (s : State) :
    (estopChanged l s).ring = s.ring ∧ (estopChanged l s).records = s.records ∧
    (estopChanged l s).balance = s.balance ∧ (estopChanged l s).zones = s.zones ∧
    (estopChanged l s).cooling = s.cooling ∧ (estopChanged l s).stateUnit = s.stateUnit ∧
    (estopChanged l s).freeCount = s.freeCount ∧ (estopChanged l s).pending = s.pending ∧
    (estopChanged l s).connection.permit = s.connection.permit ∧ (estopChanged l s).lines.inputs = s.lines.inputs ∧
    (estopChanged l s).lines.sample = s.lines.sample ∧ (estopChanged l s).lines.coolant = s.lines.coolant ∧
    (estopChanged l s).lines.timeBase = s.lines.timeBase ∧ (estopChanged l s).lines.minute = s.lines.minute ∧
    (estopChanged l s).lines.outputs.agent = s.lines.outputs.agent ∧
    (estopChanged l s).lines.outputs.rackFans = s.lines.outputs.rackFans ∧
    (estopChanged l s).lines.outputs.pump = s.lines.outputs.pump ∧
    (estopChanged l s).lines.outputs.exhaust = s.lines.outputs.exhaust ∧
    (estopChanged l s).lines.outputs.condenser = s.lines.outputs.condenser ∧
    (estopChanged l s).lines.outputs.chillerRun = s.lines.outputs.chillerRun ∧
    (estopChanged l s).lines.outputs.heater = s.lines.outputs.heater ∧
    (estopChanged l s).lines.outputs.dampersOpen = s.lines.outputs.dampersOpen := by
  simp only [estopChanged]; (repeat' split) <;> simp

@[simp] theorem feederChanged_frame (l : Bool) (s : State) :
    (feederChanged l s).ring = s.ring ∧ (feederChanged l s).records = s.records ∧
    (feederChanged l s).balance = s.balance ∧ (feederChanged l s).zones = s.zones ∧
    (feederChanged l s).cooling = s.cooling ∧ (feederChanged l s).stateUnit = s.stateUnit ∧
    (feederChanged l s).freeCount = s.freeCount ∧ (feederChanged l s).pending = s.pending ∧
    (feederChanged l s).connection.permit = s.connection.permit ∧ (feederChanged l s).lines.inputs = s.lines.inputs ∧
    (feederChanged l s).lines.sample = s.lines.sample ∧ (feederChanged l s).lines.coolant = s.lines.coolant ∧
    (feederChanged l s).lines.timeBase = s.lines.timeBase ∧ (feederChanged l s).lines.minute = s.lines.minute ∧
    (feederChanged l s).lines.outputs.agent = s.lines.outputs.agent ∧
    (feederChanged l s).lines.outputs.rackFans = s.lines.outputs.rackFans ∧
    (feederChanged l s).lines.outputs.pump = s.lines.outputs.pump ∧
    (feederChanged l s).lines.outputs.exhaust = s.lines.outputs.exhaust ∧
    (feederChanged l s).lines.outputs.condenser = s.lines.outputs.condenser ∧
    (feederChanged l s).lines.outputs.chillerRun = s.lines.outputs.chillerRun ∧
    (feederChanged l s).lines.outputs.heater = s.lines.outputs.heater ∧
    (feederChanged l s).lines.outputs.dampersOpen = s.lines.outputs.dampersOpen := by
  simp only [feederChanged]; (repeat' split) <;> simp

@[simp] theorem weldAtStart_frame (s : State) :
    (weldAtStart s).ring = s.ring ∧ (weldAtStart s).records = s.records ∧ (weldAtStart s).balance = s.balance ∧
    (weldAtStart s).zones = s.zones ∧ (weldAtStart s).cooling = s.cooling ∧ (weldAtStart s).stateUnit = s.stateUnit ∧
    (weldAtStart s).freeCount = s.freeCount ∧ (weldAtStart s).pending = s.pending ∧
    (weldAtStart s).connection.permit = s.connection.permit ∧ (weldAtStart s).lines.inputs = s.lines.inputs ∧
    (weldAtStart s).lines.sample = s.lines.sample ∧ (weldAtStart s).lines.coolant = s.lines.coolant ∧
    (weldAtStart s).lines.timeBase = s.lines.timeBase ∧ (weldAtStart s).lines.minute = s.lines.minute ∧
    (weldAtStart s).lines.outputs.agent = s.lines.outputs.agent ∧
    (weldAtStart s).lines.outputs.rackFans = s.lines.outputs.rackFans ∧
    (weldAtStart s).lines.outputs.pump = s.lines.outputs.pump ∧
    (weldAtStart s).lines.outputs.exhaust = s.lines.outputs.exhaust ∧
    (weldAtStart s).lines.outputs.condenser = s.lines.outputs.condenser ∧
    (weldAtStart s).lines.outputs.chillerRun = s.lines.outputs.chillerRun ∧
    (weldAtStart s).lines.outputs.heater = s.lines.outputs.heater ∧
    (weldAtStart s).lines.outputs.dampersOpen = s.lines.outputs.dampersOpen := by
  simp only [weldAtStart]; (repeat' split) <;> simp

@[simp] theorem connectionSample_frame (s : State) :
    (connectionSample s).ring = s.ring ∧ (connectionSample s).records = s.records ∧
    (connectionSample s).balance = s.balance ∧ (connectionSample s).zones = s.zones ∧
    (connectionSample s).cooling = s.cooling ∧ (connectionSample s).stateUnit = s.stateUnit ∧
    (connectionSample s).freeCount = s.freeCount ∧ (connectionSample s).pending = s.pending ∧
    (connectionSample s).connection.permit = s.connection.permit ∧
    (connectionSample s).lines.inputs = s.lines.inputs ∧ (connectionSample s).lines.sample = s.lines.sample ∧
    (connectionSample s).lines.coolant = s.lines.coolant ∧ (connectionSample s).lines.timeBase = s.lines.timeBase ∧
    (connectionSample s).lines.minute = s.lines.minute ∧
    (connectionSample s).lines.outputs.agent = s.lines.outputs.agent ∧
    (connectionSample s).lines.outputs.rackFans = s.lines.outputs.rackFans ∧
    (connectionSample s).lines.outputs.pump = s.lines.outputs.pump ∧
    (connectionSample s).lines.outputs.exhaust = s.lines.outputs.exhaust ∧
    (connectionSample s).lines.outputs.condenser = s.lines.outputs.condenser ∧
    (connectionSample s).lines.outputs.chillerRun = s.lines.outputs.chillerRun ∧
    (connectionSample s).lines.outputs.heater = s.lines.outputs.heater ∧
    (connectionSample s).lines.outputs.dampersOpen = s.lines.outputs.dampersOpen := by
  simp [connectionSample]

@[simp] theorem confirmExpired_frame (s : State) :
    (confirmExpired s).ring = s.ring ∧ (confirmExpired s).records = s.records ∧
    (confirmExpired s).balance = s.balance ∧ (confirmExpired s).zones = s.zones ∧
    (confirmExpired s).cooling = s.cooling ∧ (confirmExpired s).stateUnit = s.stateUnit ∧
    (confirmExpired s).freeCount = s.freeCount ∧ (confirmExpired s).pending = s.pending ∧
    (confirmExpired s).connection.permit = s.connection.permit ∧ (confirmExpired s).lines.inputs = s.lines.inputs ∧
    (confirmExpired s).lines.sample = s.lines.sample ∧ (confirmExpired s).lines.coolant = s.lines.coolant ∧
    (confirmExpired s).lines.timeBase = s.lines.timeBase ∧ (confirmExpired s).lines.minute = s.lines.minute ∧
    (confirmExpired s).lines.outputs.agent = s.lines.outputs.agent ∧
    (confirmExpired s).lines.outputs.rackFans = s.lines.outputs.rackFans ∧
    (confirmExpired s).lines.outputs.pump = s.lines.outputs.pump ∧
    (confirmExpired s).lines.outputs.exhaust = s.lines.outputs.exhaust ∧
    (confirmExpired s).lines.outputs.condenser = s.lines.outputs.condenser ∧
    (confirmExpired s).lines.outputs.chillerRun = s.lines.outputs.chillerRun ∧
    (confirmExpired s).lines.outputs.heater = s.lines.outputs.heater ∧
    (confirmExpired s).lines.outputs.dampersOpen = s.lines.outputs.dampersOpen := by
  simp only [confirmExpired]; (repeat' split) <;> simp

@[simp] theorem permitTrip_frame (c : TripCause) (p : Option PortId) (s : State) :
    (permitTrip c p s).ring = s.ring ∧ (permitTrip c p s).records = s.records ∧
    (permitTrip c p s).balance = s.balance ∧ (permitTrip c p s).zones = s.zones ∧
    (permitTrip c p s).cooling = s.cooling ∧ (permitTrip c p s).stateUnit = s.stateUnit ∧
    (permitTrip c p s).freeCount = s.freeCount ∧ (permitTrip c p s).pending = s.pending ∧
    (permitTrip c p s).connection.permit = s.connection.permit ∧ (permitTrip c p s).lines.inputs = s.lines.inputs ∧
    (permitTrip c p s).lines.sample = s.lines.sample ∧ (permitTrip c p s).lines.coolant = s.lines.coolant ∧
    (permitTrip c p s).lines.timeBase = s.lines.timeBase ∧ (permitTrip c p s).lines.minute = s.lines.minute ∧
    (permitTrip c p s).lines.outputs.agent = s.lines.outputs.agent ∧
    (permitTrip c p s).lines.outputs.rackFans = s.lines.outputs.rackFans ∧
    (permitTrip c p s).lines.outputs.pump = s.lines.outputs.pump ∧
    (permitTrip c p s).lines.outputs.exhaust = s.lines.outputs.exhaust ∧
    (permitTrip c p s).lines.outputs.condenser = s.lines.outputs.condenser ∧
    (permitTrip c p s).lines.outputs.chillerRun = s.lines.outputs.chillerRun ∧
    (permitTrip c p s).lines.outputs.heater = s.lines.outputs.heater ∧
    (permitTrip c p s).lines.outputs.dampersOpen = s.lines.outputs.dampersOpen := by
  simp [permitTrip]

@[simp] theorem completeVotes_frame (p : PortId) (s : State) :
    (completeVotes p s).ring = s.ring ∧ (completeVotes p s).records = s.records ∧
    (completeVotes p s).balance = s.balance ∧ (completeVotes p s).zones = s.zones ∧
    (completeVotes p s).cooling = s.cooling ∧ (completeVotes p s).stateUnit = s.stateUnit ∧
    (completeVotes p s).freeCount = s.freeCount ∧ (completeVotes p s).pending = s.pending ∧
    (completeVotes p s).connection.permit = s.connection.permit ∧ (completeVotes p s).lines.inputs = s.lines.inputs ∧
    (completeVotes p s).lines.sample = s.lines.sample ∧ (completeVotes p s).lines.coolant = s.lines.coolant ∧
    (completeVotes p s).lines.timeBase = s.lines.timeBase ∧ (completeVotes p s).lines.minute = s.lines.minute ∧
    (completeVotes p s).lines.outputs.agent = s.lines.outputs.agent ∧
    (completeVotes p s).lines.outputs.rackFans = s.lines.outputs.rackFans ∧
    (completeVotes p s).lines.outputs.pump = s.lines.outputs.pump ∧
    (completeVotes p s).lines.outputs.exhaust = s.lines.outputs.exhaust ∧
    (completeVotes p s).lines.outputs.condenser = s.lines.outputs.condenser ∧
    (completeVotes p s).lines.outputs.chillerRun = s.lines.outputs.chillerRun ∧
    (completeVotes p s).lines.outputs.heater = s.lines.outputs.heater ∧
    (completeVotes p s).lines.outputs.dampersOpen = s.lines.outputs.dampersOpen := by
  simp only [completeVotes]; (repeat' split) <;> simp

@[simp] theorem balancePublication_frame (s : State) :
    (balancePublication s).ring = s.ring ∧ (balancePublication s).records = s.records ∧
    (balancePublication s).envelope = s.envelope ∧ (balancePublication s).monitor = s.monitor ∧
    (balancePublication s).connection = s.connection ∧ (balancePublication s).zones = s.zones ∧
    (balancePublication s).cooling = s.cooling ∧ (balancePublication s).lines = s.lines ∧
    (balancePublication s).stateUnit = s.stateUnit ∧ (balancePublication s).portUnit = s.portUnit ∧
    (balancePublication s).freeCount = s.freeCount ∧ (balancePublication s).pending = s.pending := by
  simp [balancePublication]

@[simp] theorem setRingState_frame (r : RingState) (s : State) :
    (setRingState r s).records = s.records ∧ (setRingState r s).balance = s.balance ∧
    (setRingState r s).zones = s.zones ∧ (setRingState r s).cooling = s.cooling ∧
    (setRingState r s).stateUnit = s.stateUnit ∧ (setRingState r s).freeCount = s.freeCount ∧
    (setRingState r s).pending = s.pending ∧ (setRingState r s).connection.permit = s.connection.permit ∧
    (setRingState r s).lines.inputs = s.lines.inputs ∧ (setRingState r s).lines.sample = s.lines.sample ∧
    (setRingState r s).lines.coolant = s.lines.coolant ∧ (setRingState r s).lines.timeBase = s.lines.timeBase ∧
    (setRingState r s).lines.minute = s.lines.minute ∧
    (setRingState r s).lines.outputs.agent = s.lines.outputs.agent ∧
    (setRingState r s).lines.outputs.rackFans = s.lines.outputs.rackFans ∧
    (setRingState r s).lines.outputs.pump = s.lines.outputs.pump ∧
    (setRingState r s).lines.outputs.exhaust = s.lines.outputs.exhaust ∧
    (setRingState r s).lines.outputs.condenser = s.lines.outputs.condenser ∧
    (setRingState r s).lines.outputs.chillerRun = s.lines.outputs.chillerRun ∧
    (setRingState r s).lines.outputs.heater = s.lines.outputs.heater ∧
    (setRingState r s).lines.outputs.dampersOpen = s.lines.outputs.dampersOpen := by
  simp only [setRingState]; (repeat' split) <;> simp

@[simp] theorem setOpState_frame (o : OpState) (g : Option Origin) (s : State) :
    (setOpState o g s).ring = s.ring ∧ (setOpState o g s).records = s.records ∧
    (setOpState o g s).monitor = s.monitor ∧ (setOpState o g s).connection = s.connection ∧
    (setOpState o g s).zones = s.zones ∧ (setOpState o g s).cooling = s.cooling ∧
    (setOpState o g s).lines = s.lines ∧ (setOpState o g s).freeCount = s.freeCount ∧
    (setOpState o g s).pending = s.pending ∧ (setOpState o g s).stateUnit.settings = s.stateUnit.settings ∧
    (setOpState o g s).stateUnit.restart = s.stateUnit.restart ∧
    (setOpState o g s).stateUnit.lastRefusal = s.stateUnit.lastRefusal := by
  simp only [setOpState]; (repeat' split) <;> simp

@[simp] theorem wakeToRun_frame (s : State) :
    (wakeToRun s).records = s.records ∧ (wakeToRun s).monitor = s.monitor ∧ (wakeToRun s).connection = s.connection ∧
    (wakeToRun s).zones = s.zones ∧ (wakeToRun s).cooling = s.cooling ∧ (wakeToRun s).lines = s.lines ∧
    (wakeToRun s).freeCount = s.freeCount ∧ (wakeToRun s).pending = s.pending ∧
    (wakeToRun s).stateUnit.settings = s.stateUnit.settings ∧ (wakeToRun s).stateUnit.restart = s.stateUnit.restart ∧
    (wakeToRun s).stateUnit.lastRefusal = s.stateUnit.lastRefusal := by
  simp only [wakeToRun]; (repeat' split) <;> simp

@[simp] theorem startCycle_frame (s : State) :
    (startCycle s).records = s.records ∧ (startCycle s).monitor = s.monitor ∧
    (startCycle s).connection = s.connection ∧ (startCycle s).zones = s.zones ∧ (startCycle s).cooling = s.cooling ∧
    (startCycle s).lines = s.lines ∧ (startCycle s).freeCount = s.freeCount ∧ (startCycle s).pending = s.pending ∧
    (startCycle s).stateUnit.settings = s.stateUnit.settings ∧
    (startCycle s).stateUnit.restart = s.stateUnit.restart ∧
    (startCycle s).stateUnit.lastRefusal = s.stateUnit.lastRefusal := by
  simp [startCycle]

@[simp] theorem ringBoundary_frame (n : Nat) (s : State) :
    (ringBoundary n s).records = s.records ∧ (ringBoundary n s).monitor = s.monitor ∧
    (ringBoundary n s).connection = s.connection ∧ (ringBoundary n s).zones = s.zones ∧
    (ringBoundary n s).cooling = s.cooling ∧ (ringBoundary n s).lines = s.lines ∧
    (ringBoundary n s).freeCount = s.freeCount ∧ (ringBoundary n s).pending = s.pending ∧
    (ringBoundary n s).stateUnit.settings = s.stateUnit.settings ∧
    (ringBoundary n s).stateUnit.restart = s.stateUnit.restart ∧
    (ringBoundary n s).stateUnit.lastRefusal = s.stateUnit.lastRefusal := by
  simp only [ringBoundary]; (repeat' split) <;> simp

@[simp] theorem ringWake_frame (s : State) :
    (ringWake s).records = s.records ∧ (ringWake s).monitor = s.monitor ∧ (ringWake s).connection = s.connection ∧
    (ringWake s).zones = s.zones ∧ (ringWake s).cooling = s.cooling ∧ (ringWake s).lines = s.lines ∧
    (ringWake s).freeCount = s.freeCount ∧ (ringWake s).pending = s.pending ∧
    (ringWake s).stateUnit.settings = s.stateUnit.settings ∧ (ringWake s).stateUnit.restart = s.stateUnit.restart ∧
    (ringWake s).stateUnit.lastRefusal = s.stateUnit.lastRefusal := by
  simp [ringWake]

@[simp] theorem wakeCause_frame (s : State) :
    (wakeCause s).records = s.records ∧ (wakeCause s).monitor = s.monitor ∧ (wakeCause s).connection = s.connection ∧
    (wakeCause s).zones = s.zones ∧ (wakeCause s).cooling = s.cooling ∧ (wakeCause s).lines = s.lines ∧
    (wakeCause s).freeCount = s.freeCount ∧ (wakeCause s).pending = s.pending ∧
    (wakeCause s).stateUnit.settings = s.stateUnit.settings ∧ (wakeCause s).stateUnit.restart = s.stateUnit.restart ∧
    (wakeCause s).stateUnit.lastRefusal = s.stateUnit.lastRefusal := by
  simp only [wakeCause]; (repeat' split) <;> simp

@[simp] theorem setHealth_frame (h : Health) (s : State) :
    (setHealth h s).records = s.records ∧ (setHealth h s).monitor = s.monitor ∧
    (setHealth h s).connection = s.connection ∧ (setHealth h s).zones = s.zones ∧ (setHealth h s).lines = s.lines ∧
    (setHealth h s).freeCount = s.freeCount ∧ (setHealth h s).pending = s.pending ∧
    (setHealth h s).stateUnit.settings = s.stateUnit.settings ∧
    (setHealth h s).stateUnit.restart = s.stateUnit.restart ∧
    (setHealth h s).stateUnit.lastRefusal = s.stateUnit.lastRefusal := by
  simp only [setHealth]; (repeat' split) <;> simp

@[simp] theorem followConditions_frame (b : Bool) (s : State) :
    (followConditions b s).records = s.records ∧ (followConditions b s).monitor = s.monitor ∧
    (followConditions b s).connection = s.connection ∧ (followConditions b s).zones = s.zones ∧
    (followConditions b s).lines = s.lines ∧ (followConditions b s).freeCount = s.freeCount ∧
    (followConditions b s).pending = s.pending ∧ (followConditions b s).stateUnit.settings = s.stateUnit.settings ∧
    (followConditions b s).stateUnit.restart = s.stateUnit.restart ∧
    (followConditions b s).stateUnit.lastRefusal = s.stateUnit.lastRefusal := by
  simp only [followConditions]; (repeat' split) <;> simp

@[simp] theorem updateConditions_frame (f : Cooling → Cooling) (s : State) :
    (updateConditions f s).records = s.records ∧ (updateConditions f s).monitor = s.monitor ∧
    (updateConditions f s).connection = s.connection ∧ (updateConditions f s).zones = s.zones ∧
    (updateConditions f s).lines = s.lines ∧ (updateConditions f s).freeCount = s.freeCount ∧
    (updateConditions f s).pending = s.pending ∧ (updateConditions f s).stateUnit.settings = s.stateUnit.settings ∧
    (updateConditions f s).stateUnit.restart = s.stateUnit.restart ∧
    (updateConditions f s).stateUnit.lastRefusal = s.stateUnit.lastRefusal := by
  simp [updateConditions]

@[simp] theorem flowCheck_frame (s : State) :
    (flowCheck s).records = s.records ∧ (flowCheck s).monitor = s.monitor ∧ (flowCheck s).connection = s.connection ∧
    (flowCheck s).zones = s.zones ∧ (flowCheck s).lines = s.lines ∧ (flowCheck s).freeCount = s.freeCount ∧
    (flowCheck s).pending = s.pending ∧ (flowCheck s).stateUnit.settings = s.stateUnit.settings ∧
    (flowCheck s).stateUnit.restart = s.stateUnit.restart ∧
    (flowCheck s).stateUnit.lastRefusal = s.stateUnit.lastRefusal := by
  simp only [flowCheck]; (repeat' split) <;> simp

@[simp] theorem chillerCheck_frame (s : State) :
    (chillerCheck s).records = s.records ∧ (chillerCheck s).monitor = s.monitor ∧
    (chillerCheck s).connection = s.connection ∧ (chillerCheck s).zones = s.zones ∧
    (chillerCheck s).lines = s.lines ∧ (chillerCheck s).freeCount = s.freeCount ∧
    (chillerCheck s).pending = s.pending ∧ (chillerCheck s).stateUnit.settings = s.stateUnit.settings ∧
    (chillerCheck s).stateUnit.restart = s.stateUnit.restart ∧
    (chillerCheck s).stateUnit.lastRefusal = s.stateUnit.lastRefusal := by
  simp [chillerCheck]

@[simp] theorem supplyCheck_frame (t : Option Int) (s : State) :
    (supplyCheck t s).records = s.records ∧ (supplyCheck t s).monitor = s.monitor ∧
    (supplyCheck t s).connection = s.connection ∧ (supplyCheck t s).zones = s.zones ∧
    (supplyCheck t s).lines = s.lines ∧ (supplyCheck t s).freeCount = s.freeCount ∧
    (supplyCheck t s).pending = s.pending ∧ (supplyCheck t s).stateUnit.settings = s.stateUnit.settings ∧
    (supplyCheck t s).stateUnit.restart = s.stateUnit.restart ∧
    (supplyCheck t s).stateUnit.lastRefusal = s.stateUnit.lastRefusal := by
  simp [supplyCheck]

@[simp] theorem driveCooling_frame (d : Drive) (s : State) :
    (driveCooling d s).records = s.records ∧ (driveCooling d s).monitor = s.monitor ∧
    (driveCooling d s).connection = s.connection ∧ (driveCooling d s).zones = s.zones ∧
    (driveCooling d s).freeCount = s.freeCount ∧ (driveCooling d s).pending = s.pending ∧
    (driveCooling d s).lines.inputs = s.lines.inputs ∧ (driveCooling d s).lines.sample = s.lines.sample ∧
    (driveCooling d s).lines.coolant = s.lines.coolant ∧ (driveCooling d s).lines.timeBase = s.lines.timeBase ∧
    (driveCooling d s).lines.minute = s.lines.minute ∧ (driveCooling d s).stateUnit.settings = s.stateUnit.settings ∧
    (driveCooling d s).stateUnit.restart = s.stateUnit.restart ∧
    (driveCooling d s).stateUnit.lastRefusal = s.stateUnit.lastRefusal ∧
    (driveCooling d s).lines.outputs.negMain = s.lines.outputs.negMain ∧
    (driveCooling d s).lines.outputs.posMain = s.lines.outputs.posMain ∧
    (driveCooling d s).lines.outputs.precharge = s.lines.outputs.precharge ∧
    (driveCooling d s).lines.outputs.gridPermissive = s.lines.outputs.gridPermissive ∧
    (driveCooling d s).lines.outputs.agent = s.lines.outputs.agent := by
  simp only [driveCooling]; (repeat' split) <;> simp

@[simp] theorem evaluateCooling_frame (s : State) :
    (evaluateCooling s).records = s.records ∧ (evaluateCooling s).monitor = s.monitor ∧
    (evaluateCooling s).connection = s.connection ∧ (evaluateCooling s).zones = s.zones ∧
    (evaluateCooling s).freeCount = s.freeCount ∧ (evaluateCooling s).pending = s.pending ∧
    (evaluateCooling s).lines.inputs = s.lines.inputs ∧ (evaluateCooling s).lines.sample = s.lines.sample ∧
    (evaluateCooling s).lines.coolant = s.lines.coolant ∧ (evaluateCooling s).lines.timeBase = s.lines.timeBase ∧
    (evaluateCooling s).lines.minute = s.lines.minute ∧
    (evaluateCooling s).stateUnit.settings = s.stateUnit.settings ∧
    (evaluateCooling s).stateUnit.restart = s.stateUnit.restart ∧
    (evaluateCooling s).stateUnit.lastRefusal = s.stateUnit.lastRefusal ∧
    (evaluateCooling s).lines.outputs.negMain = s.lines.outputs.negMain ∧
    (evaluateCooling s).lines.outputs.posMain = s.lines.outputs.posMain ∧
    (evaluateCooling s).lines.outputs.precharge = s.lines.outputs.precharge ∧
    (evaluateCooling s).lines.outputs.gridPermissive = s.lines.outputs.gridPermissive ∧
    (evaluateCooling s).lines.outputs.agent = s.lines.outputs.agent := by
  simp [evaluateCooling]

@[simp] theorem coolingPublication_frame (s : State) :
    (coolingPublication s).records = s.records ∧ (coolingPublication s).monitor = s.monitor ∧
    (coolingPublication s).connection = s.connection ∧ (coolingPublication s).zones = s.zones ∧
    (coolingPublication s).freeCount = s.freeCount ∧ (coolingPublication s).pending = s.pending ∧
    (coolingPublication s).lines.inputs = s.lines.inputs ∧ (coolingPublication s).lines.sample = s.lines.sample ∧
    (coolingPublication s).lines.coolant = s.lines.coolant ∧
    (coolingPublication s).lines.timeBase = s.lines.timeBase ∧ (coolingPublication s).lines.minute = s.lines.minute ∧
    (coolingPublication s).stateUnit.settings = s.stateUnit.settings ∧
    (coolingPublication s).stateUnit.restart = s.stateUnit.restart ∧
    (coolingPublication s).stateUnit.lastRefusal = s.stateUnit.lastRefusal ∧
    (coolingPublication s).lines.outputs.negMain = s.lines.outputs.negMain ∧
    (coolingPublication s).lines.outputs.posMain = s.lines.outputs.posMain ∧
    (coolingPublication s).lines.outputs.precharge = s.lines.outputs.precharge ∧
    (coolingPublication s).lines.outputs.gridPermissive = s.lines.outputs.gridPermissive ∧
    (coolingPublication s).lines.outputs.agent = s.lines.outputs.agent := by
  simp [coolingPublication]

@[simp] theorem endOverride_frame (s : State) :
    (endOverride s).records = s.records ∧ (endOverride s).monitor = s.monitor ∧
    (endOverride s).connection = s.connection ∧ (endOverride s).zones = s.zones ∧
    (endOverride s).freeCount = s.freeCount ∧ (endOverride s).pending = s.pending ∧
    (endOverride s).lines.inputs = s.lines.inputs ∧ (endOverride s).lines.sample = s.lines.sample ∧
    (endOverride s).lines.coolant = s.lines.coolant ∧ (endOverride s).lines.timeBase = s.lines.timeBase ∧
    (endOverride s).lines.minute = s.lines.minute ∧ (endOverride s).stateUnit.settings = s.stateUnit.settings ∧
    (endOverride s).stateUnit.restart = s.stateUnit.restart ∧
    (endOverride s).stateUnit.lastRefusal = s.stateUnit.lastRefusal ∧
    (endOverride s).lines.outputs.negMain = s.lines.outputs.negMain ∧
    (endOverride s).lines.outputs.posMain = s.lines.outputs.posMain ∧
    (endOverride s).lines.outputs.precharge = s.lines.outputs.precharge ∧
    (endOverride s).lines.outputs.gridPermissive = s.lines.outputs.gridPermissive ∧
    (endOverride s).lines.outputs.agent = s.lines.outputs.agent := by
  simp [endOverride]

@[simp] theorem workOutFlags_frame (z : Zone) (s : State) :
    (workOutFlags s z).ring = s.ring ∧ (workOutFlags s z).records = s.records ∧
    (workOutFlags s z).balance = s.balance ∧ (workOutFlags s z).monitor = s.monitor ∧
    (workOutFlags s z).connection = s.connection ∧ (workOutFlags s z).cooling = s.cooling ∧
    (workOutFlags s z).lines = s.lines ∧ (workOutFlags s z).stateUnit = s.stateUnit ∧
    (workOutFlags s z).freeCount = s.freeCount ∧ (workOutFlags s z).pending = s.pending ∧
    (workOutFlags s z).zones.channels = s.zones.channels := by
  simp only [workOutFlags]; (repeat' split) <;> simp

@[simp] theorem placeZone_frame (z : Zone) (r : ZoneRecord) (s : State) :
    (placeZone z r s).zones.channels = s.zones.channels ∧ (placeZone z r s).lines.inputs = s.lines.inputs ∧
    (placeZone z r s).lines.sample = s.lines.sample ∧ (placeZone z r s).lines.coolant = s.lines.coolant ∧
    (placeZone z r s).lines.timeBase = s.lines.timeBase ∧ (placeZone z r s).lines.minute = s.lines.minute := by
  simp [placeZone]

@[simp] theorem changeZone_frame (z : Zone) (r : ZoneRecord) (o : Option Origin) (l : Option Location) (s : State) :
    (changeZone z r o l s).records = s.records ∧ (changeZone z r o l s).freeCount = s.freeCount ∧
    (changeZone z r o l s).pending = s.pending ∧ (changeZone z r o l s).connection.permit = s.connection.permit ∧
    (changeZone z r o l s).zones.channels = s.zones.channels ∧ (changeZone z r o l s).lines.inputs = s.lines.inputs ∧
    (changeZone z r o l s).lines.sample = s.lines.sample ∧ (changeZone z r o l s).lines.coolant = s.lines.coolant ∧
    (changeZone z r o l s).lines.timeBase = s.lines.timeBase ∧ (changeZone z r o l s).lines.minute = s.lines.minute ∧
    (changeZone z r o l s).stateUnit.settings = s.stateUnit.settings ∧
    (changeZone z r o l s).stateUnit.restart = s.stateUnit.restart ∧
    (changeZone z r o l s).stateUnit.lastRefusal = s.stateUnit.lastRefusal := by
  simp only [changeZone]; (repeat' split) <;> simp

@[simp] theorem releaseZone_frame (z : Zone) (s : State) :
    (releaseZone z s).records = s.records ∧ (releaseZone z s).freeCount = s.freeCount ∧
    (releaseZone z s).pending = s.pending ∧ (releaseZone z s).connection.permit = s.connection.permit ∧
    (releaseZone z s).zones.channels = s.zones.channels ∧ (releaseZone z s).lines.inputs = s.lines.inputs ∧
    (releaseZone z s).lines.sample = s.lines.sample ∧ (releaseZone z s).lines.coolant = s.lines.coolant ∧
    (releaseZone z s).lines.timeBase = s.lines.timeBase ∧ (releaseZone z s).lines.minute = s.lines.minute ∧
    (releaseZone z s).stateUnit.settings = s.stateUnit.settings ∧
    (releaseZone z s).stateUnit.restart = s.stateUnit.restart ∧
    (releaseZone z s).stateUnit.lastRefusal = s.stateUnit.lastRefusal := by
  simp [releaseZone]

@[simp] theorem holdZone_frame (z : Zone) (o : Option Origin) (s : State) :
    (holdZone z o s).records = s.records ∧ (holdZone z o s).freeCount = s.freeCount ∧
    (holdZone z o s).pending = s.pending ∧ (holdZone z o s).connection.permit = s.connection.permit ∧
    (holdZone z o s).zones.channels = s.zones.channels ∧ (holdZone z o s).lines.inputs = s.lines.inputs ∧
    (holdZone z o s).lines.sample = s.lines.sample ∧ (holdZone z o s).lines.coolant = s.lines.coolant ∧
    (holdZone z o s).lines.timeBase = s.lines.timeBase ∧ (holdZone z o s).lines.minute = s.lines.minute ∧
    (holdZone z o s).stateUnit.settings = s.stateUnit.settings ∧
    (holdZone z o s).stateUnit.restart = s.stateUnit.restart ∧
    (holdZone z o s).stateUnit.lastRefusal = s.stateUnit.lastRefusal := by
  simp [holdZone]

@[simp] theorem resumeZone_frame (z : Zone) (o : Option Origin) (s : State) :
    (resumeZone z o s).records = s.records ∧ (resumeZone z o s).freeCount = s.freeCount ∧
    (resumeZone z o s).pending = s.pending ∧ (resumeZone z o s).connection.permit = s.connection.permit ∧
    (resumeZone z o s).zones.channels = s.zones.channels ∧ (resumeZone z o s).lines.inputs = s.lines.inputs ∧
    (resumeZone z o s).lines.sample = s.lines.sample ∧ (resumeZone z o s).lines.coolant = s.lines.coolant ∧
    (resumeZone z o s).lines.timeBase = s.lines.timeBase ∧ (resumeZone z o s).lines.minute = s.lines.minute ∧
    (resumeZone z o s).stateUnit.settings = s.stateUnit.settings ∧
    (resumeZone z o s).stateUnit.restart = s.stateUnit.restart ∧
    (resumeZone z o s).stateUnit.lastRefusal = s.stateUnit.lastRefusal := by
  simp only [resumeZone]; (repeat' split) <;> simp

@[simp] theorem enterCountdown_frame (z : Zone) (o : Option Origin) (l : Option Location) (s : State) :
    (enterCountdown z o l s).records = s.records ∧ (enterCountdown z o l s).freeCount = s.freeCount ∧
    (enterCountdown z o l s).pending = s.pending ∧ (enterCountdown z o l s).connection.permit = s.connection.permit ∧
    (enterCountdown z o l s).zones.channels = s.zones.channels ∧ (enterCountdown z o l s).lines.inputs = s.lines.inputs ∧
    (enterCountdown z o l s).lines.sample = s.lines.sample ∧ (enterCountdown z o l s).lines.coolant = s.lines.coolant ∧
    (enterCountdown z o l s).lines.timeBase = s.lines.timeBase ∧ (enterCountdown z o l s).lines.minute = s.lines.minute ∧
    (enterCountdown z o l s).stateUnit.settings = s.stateUnit.settings ∧
    (enterCountdown z o l s).stateUnit.restart = s.stateUnit.restart ∧
    (enterCountdown z o l s).stateUnit.lastRefusal = s.stateUnit.lastRefusal := by
  simp only [enterCountdown]; (repeat' split) <;> simp

@[simp] theorem confirmZone_frame (z : Zone) (o : Option Origin) (l : Option Location) (s : State) :
    (confirmZone z o l s).records = s.records ∧ (confirmZone z o l s).freeCount = s.freeCount ∧
    (confirmZone z o l s).pending = s.pending ∧ (confirmZone z o l s).connection.permit = s.connection.permit ∧
    (confirmZone z o l s).zones.channels = s.zones.channels ∧ (confirmZone z o l s).lines.inputs = s.lines.inputs ∧
    (confirmZone z o l s).lines.sample = s.lines.sample ∧ (confirmZone z o l s).lines.coolant = s.lines.coolant ∧
    (confirmZone z o l s).lines.timeBase = s.lines.timeBase ∧ (confirmZone z o l s).lines.minute = s.lines.minute ∧
    (confirmZone z o l s).stateUnit.settings = s.stateUnit.settings ∧
    (confirmZone z o l s).stateUnit.restart = s.stateUnit.restart ∧
    (confirmZone z o l s).stateUnit.lastRefusal = s.stateUnit.lastRefusal := by
  simp only [confirmZone]; (repeat' split) <;> simp

@[simp] theorem followSingleSource_frame (z : Zone) (s : State) :
    (followSingleSource z s).zones.channels = s.zones.channels := by
  simp only [followSingleSource]; (repeat' split) <;> simp

@[simp] theorem followClear_frame (z : Zone) (s : State) :
    (followClear z s).zones.channels = s.zones.channels := by
  simp only [followClear]; (repeat' split) <;> simp

@[simp] theorem setInput_frame (i : Input) (r : InputRecord) (s : State) :
    (setInput i r s).lines.sample = s.lines.sample ∧ (setInput i r s).lines.coolant = s.lines.coolant ∧
    (setInput i r s).lines.timeBase = s.lines.timeBase ∧ (setInput i r s).lines.minute = s.lines.minute ∧
    (setInput i r s).lines.outputs.negMain = s.lines.outputs.negMain ∧
    (setInput i r s).lines.outputs.posMain = s.lines.outputs.posMain ∧
    (setInput i r s).lines.outputs.precharge = s.lines.outputs.precharge ∧
    (setInput i r s).lines.outputs.gridPermissive = s.lines.outputs.gridPermissive ∧
    (setInput i r s).lines.outputs.agent = s.lines.outputs.agent ∧
    (setInput i r s).lines.outputs.rackFans = s.lines.outputs.rackFans ∧
    (setInput i r s).lines.outputs.pump = s.lines.outputs.pump ∧
    (setInput i r s).lines.outputs.exhaust = s.lines.outputs.exhaust ∧
    (setInput i r s).lines.outputs.condenser = s.lines.outputs.condenser ∧
    (setInput i r s).lines.outputs.chillerRun = s.lines.outputs.chillerRun ∧
    (setInput i r s).lines.outputs.heater = s.lines.outputs.heater ∧
    (setInput i r s).lines.outputs.dampersOpen = s.lines.outputs.dampersOpen := by
  simp [setInput]

@[simp] theorem chooseLocation_frame (l : List Location) (s : State) :
    ((chooseLocation l s).2).ring = s.ring ∧ ((chooseLocation l s).2).records = s.records ∧
    ((chooseLocation l s).2).balance = s.balance ∧ ((chooseLocation l s).2).envelope = s.envelope ∧
    ((chooseLocation l s).2).monitor = s.monitor ∧ ((chooseLocation l s).2).connection = s.connection ∧
    ((chooseLocation l s).2).zones = s.zones ∧ ((chooseLocation l s).2).cooling = s.cooling ∧
    ((chooseLocation l s).2).lines = s.lines ∧ ((chooseLocation l s).2).stateUnit = s.stateUnit ∧
    ((chooseLocation l s).2).portUnit = s.portUnit ∧ ((chooseLocation l s).2).pending = s.pending := by
  simp only [chooseLocation]; (repeat' split) <;> simp

@[simp] theorem evaluateZone_frame (e : Evidence) (z : Zone) (s : State) :
    (evaluateZone e z s).records = s.records ∧ (evaluateZone e z s).pending = s.pending ∧
    (evaluateZone e z s).connection.permit = s.connection.permit ∧
    (evaluateZone e z s).zones.channels = s.zones.channels ∧ (evaluateZone e z s).lines.inputs = s.lines.inputs ∧
    (evaluateZone e z s).lines.sample = s.lines.sample ∧ (evaluateZone e z s).lines.coolant = s.lines.coolant ∧
    (evaluateZone e z s).lines.timeBase = s.lines.timeBase ∧ (evaluateZone e z s).lines.minute = s.lines.minute ∧
    (evaluateZone e z s).stateUnit.settings = s.stateUnit.settings ∧
    (evaluateZone e z s).stateUnit.restart = s.stateUnit.restart ∧
    (evaluateZone e z s).stateUnit.lastRefusal = s.stateUnit.lastRefusal := by
  simp only [evaluateZone]; (repeat' split) <;> simp

@[simp] theorem workOutFlags_fold_frame (l : List Zone) (s : State) :
    (l.foldl workOutFlags s).ring = s.ring ∧ (l.foldl workOutFlags s).records = s.records ∧
    (l.foldl workOutFlags s).balance = s.balance ∧ (l.foldl workOutFlags s).monitor = s.monitor ∧
    (l.foldl workOutFlags s).connection = s.connection ∧ (l.foldl workOutFlags s).cooling = s.cooling ∧
    (l.foldl workOutFlags s).lines = s.lines ∧ (l.foldl workOutFlags s).stateUnit = s.stateUnit ∧
    (l.foldl workOutFlags s).freeCount = s.freeCount ∧ (l.foldl workOutFlags s).pending = s.pending ∧
    (l.foldl workOutFlags s).zones.channels = s.zones.channels := by
  induction l generalizing s with
  | nil => simp
  | cons a l ih => simp [ih]

@[simp] theorem evaluateZone_fold_frame (e : State → Zone → Evidence) (l : List Zone) (s : State) :
    (l.foldl (fun s z => evaluateZone (e s z) z s) s).records = s.records ∧
    (l.foldl (fun s z => evaluateZone (e s z) z s) s).pending = s.pending ∧
    (l.foldl (fun s z => evaluateZone (e s z) z s) s).connection.permit = s.connection.permit ∧
    (l.foldl (fun s z => evaluateZone (e s z) z s) s).zones.channels = s.zones.channels ∧
    (l.foldl (fun s z => evaluateZone (e s z) z s) s).lines.inputs = s.lines.inputs ∧
    (l.foldl (fun s z => evaluateZone (e s z) z s) s).lines.sample = s.lines.sample ∧
    (l.foldl (fun s z => evaluateZone (e s z) z s) s).lines.coolant = s.lines.coolant ∧
    (l.foldl (fun s z => evaluateZone (e s z) z s) s).lines.timeBase = s.lines.timeBase ∧
    (l.foldl (fun s z => evaluateZone (e s z) z s) s).lines.minute = s.lines.minute ∧
    (l.foldl (fun s z => evaluateZone (e s z) z s) s).stateUnit.settings = s.stateUnit.settings ∧
    (l.foldl (fun s z => evaluateZone (e s z) z s) s).stateUnit.restart = s.stateUnit.restart ∧
    (l.foldl (fun s z => evaluateZone (e s z) z s) s).stateUnit.lastRefusal = s.stateUnit.lastRefusal := by
  induction l generalizing s with
  | nil => simp
  | cons a l ih => simp [ih]

@[simp] theorem evaluateThermal_frame (o : PerZone ZoneRecord) (z : Zone) (s : State) :
    (evaluateThermal o s z).records = s.records ∧ (evaluateThermal o s z).pending = s.pending ∧
    (evaluateThermal o s z).connection.permit = s.connection.permit ∧
    (evaluateThermal o s z).zones.channels = s.zones.channels ∧
    (evaluateThermal o s z).lines.inputs = s.lines.inputs ∧ (evaluateThermal o s z).lines.sample = s.lines.sample ∧
    (evaluateThermal o s z).lines.coolant = s.lines.coolant ∧
    (evaluateThermal o s z).lines.timeBase = s.lines.timeBase ∧
    (evaluateThermal o s z).lines.minute = s.lines.minute ∧
    (evaluateThermal o s z).stateUnit.settings = s.stateUnit.settings ∧
    (evaluateThermal o s z).stateUnit.restart = s.stateUnit.restart ∧
    (evaluateThermal o s z).stateUnit.lastRefusal = s.stateUnit.lastRefusal := by
  simp only [evaluateThermal]; (repeat' split) <;> simp

@[simp] theorem evaluateThermal_fold_frame (o : PerZone ZoneRecord) (l : List Zone) (s : State) :
    (l.foldl (evaluateThermal o) s).records = s.records ∧ (l.foldl (evaluateThermal o) s).pending = s.pending ∧
    (l.foldl (evaluateThermal o) s).connection.permit = s.connection.permit ∧
    (l.foldl (evaluateThermal o) s).zones.channels = s.zones.channels ∧
    (l.foldl (evaluateThermal o) s).lines.inputs = s.lines.inputs ∧
    (l.foldl (evaluateThermal o) s).lines.sample = s.lines.sample ∧
    (l.foldl (evaluateThermal o) s).lines.coolant = s.lines.coolant ∧
    (l.foldl (evaluateThermal o) s).lines.timeBase = s.lines.timeBase ∧
    (l.foldl (evaluateThermal o) s).lines.minute = s.lines.minute ∧
    (l.foldl (evaluateThermal o) s).stateUnit.settings = s.stateUnit.settings ∧
    (l.foldl (evaluateThermal o) s).stateUnit.restart = s.stateUnit.restart ∧
    (l.foldl (evaluateThermal o) s).stateUnit.lastRefusal = s.stateUnit.lastRefusal := by
  induction l generalizing s with
  | nil => simp
  | cons a l ih => simp [ih]

@[simp] theorem zonePublication_frame (s : State) :
    (zonePublication s).records = s.records ∧ (zonePublication s).pending = s.pending ∧
    (zonePublication s).connection.permit = s.connection.permit ∧
    (zonePublication s).zones.channels = s.zones.channels ∧ (zonePublication s).lines.inputs = s.lines.inputs ∧
    (zonePublication s).lines.sample = s.lines.sample ∧ (zonePublication s).lines.coolant = s.lines.coolant ∧
    (zonePublication s).lines.timeBase = s.lines.timeBase ∧ (zonePublication s).lines.minute = s.lines.minute ∧
    (zonePublication s).stateUnit.settings = s.stateUnit.settings ∧
    (zonePublication s).stateUnit.restart = s.stateUnit.restart ∧
    (zonePublication s).stateUnit.lastRefusal = s.stateUnit.lastRefusal := by
  simp [zonePublication]

@[simp] theorem afterReport_frame (n : Nat) (l : List Channel) (s : State) :
    (afterReport n l s).records = s.records ∧ (afterReport n l s).pending = s.pending ∧
    (afterReport n l s).connection.permit = s.connection.permit ∧
    (afterReport n l s).zones.channels = s.zones.channels ∧ (afterReport n l s).lines.inputs = s.lines.inputs ∧
    (afterReport n l s).lines.sample = s.lines.sample ∧ (afterReport n l s).lines.coolant = s.lines.coolant ∧
    (afterReport n l s).lines.timeBase = s.lines.timeBase ∧ (afterReport n l s).lines.minute = s.lines.minute ∧
    (afterReport n l s).stateUnit.settings = s.stateUnit.settings ∧
    (afterReport n l s).stateUnit.restart = s.stateUnit.restart ∧
    (afterReport n l s).stateUnit.lastRefusal = s.stateUnit.lastRefusal := by
  simp [afterReport]

@[simp] theorem detectDelivery_frame (n : Nat) (r : List DetectReading) (s : State) :
    (detectDelivery n r s).records = s.records ∧ (detectDelivery n r s).pending = s.pending ∧
    (detectDelivery n r s).connection.permit = s.connection.permit ∧
    (detectDelivery n r s).lines.inputs = s.lines.inputs ∧ (detectDelivery n r s).lines.sample = s.lines.sample ∧
    (detectDelivery n r s).lines.coolant = s.lines.coolant ∧
    (detectDelivery n r s).lines.timeBase = s.lines.timeBase ∧ (detectDelivery n r s).lines.minute = s.lines.minute ∧
    (detectDelivery n r s).stateUnit.settings = s.stateUnit.settings ∧
    (detectDelivery n r s).stateUnit.restart = s.stateUnit.restart ∧
    (detectDelivery n r s).stateUnit.lastRefusal = s.stateUnit.lastRefusal := by
  simp [detectDelivery]

@[simp] theorem detectFailure_frame (n k : Nat) (s : State) :
    (detectFailure n k s).records = s.records ∧ (detectFailure n k s).pending = s.pending ∧
    (detectFailure n k s).connection.permit = s.connection.permit ∧
    (detectFailure n k s).lines.inputs = s.lines.inputs ∧ (detectFailure n k s).lines.sample = s.lines.sample ∧
    (detectFailure n k s).lines.coolant = s.lines.coolant ∧ (detectFailure n k s).lines.timeBase = s.lines.timeBase ∧
    (detectFailure n k s).lines.minute = s.lines.minute ∧
    (detectFailure n k s).stateUnit.settings = s.stateUnit.settings ∧
    (detectFailure n k s).stateUnit.restart = s.stateUnit.restart ∧
    (detectFailure n k s).stateUnit.lastRefusal = s.stateUnit.lastRefusal := by
  simp [detectFailure]

@[simp] theorem rebuildChannels_frame (s : State) :
    (rebuildChannels s).records = s.records ∧ (rebuildChannels s).pending = s.pending ∧
    (rebuildChannels s).connection.permit = s.connection.permit ∧ (rebuildChannels s).lines.inputs = s.lines.inputs ∧
    (rebuildChannels s).lines.sample = s.lines.sample ∧ (rebuildChannels s).lines.coolant = s.lines.coolant ∧
    (rebuildChannels s).lines.timeBase = s.lines.timeBase ∧ (rebuildChannels s).lines.minute = s.lines.minute ∧
    (rebuildChannels s).stateUnit.settings = s.stateUnit.settings ∧
    (rebuildChannels s).stateUnit.restart = s.stateUnit.restart ∧
    (rebuildChannels s).stateUnit.lastRefusal = s.stateUnit.lastRefusal := by
  simp [rebuildChannels]

@[simp] theorem changeChannelZone_frame (p : PortId) (n : Nat) (c : ChannelZone) (s : State) :
    (changeChannelZone p n c s).records = s.records ∧ (changeChannelZone p n c s).pending = s.pending ∧
    (changeChannelZone p n c s).connection.permit = s.connection.permit ∧
    (changeChannelZone p n c s).lines.inputs = s.lines.inputs ∧
    (changeChannelZone p n c s).lines.sample = s.lines.sample ∧
    (changeChannelZone p n c s).lines.coolant = s.lines.coolant ∧
    (changeChannelZone p n c s).lines.timeBase = s.lines.timeBase ∧
    (changeChannelZone p n c s).lines.minute = s.lines.minute ∧
    (changeChannelZone p n c s).stateUnit.settings = s.stateUnit.settings ∧
    (changeChannelZone p n c s).stateUnit.restart = s.stateUnit.restart ∧
    (changeChannelZone p n c s).stateUnit.lastRefusal = s.stateUnit.lastRefusal := by
  simp only [changeChannelZone]; (repeat' split) <;> simp

@[simp] theorem holdSwitchZone_frame (z : Zone) (s : State) :
    (holdSwitchZone s z).records = s.records ∧ (holdSwitchZone s z).freeCount = s.freeCount ∧
    (holdSwitchZone s z).pending = s.pending ∧ (holdSwitchZone s z).connection.permit = s.connection.permit ∧
    (holdSwitchZone s z).zones.channels = s.zones.channels ∧ (holdSwitchZone s z).lines.inputs = s.lines.inputs ∧
    (holdSwitchZone s z).lines.sample = s.lines.sample ∧ (holdSwitchZone s z).lines.coolant = s.lines.coolant ∧
    (holdSwitchZone s z).lines.timeBase = s.lines.timeBase ∧ (holdSwitchZone s z).lines.minute = s.lines.minute ∧
    (holdSwitchZone s z).stateUnit.settings = s.stateUnit.settings ∧
    (holdSwitchZone s z).stateUnit.restart = s.stateUnit.restart ∧
    (holdSwitchZone s z).stateUnit.lastRefusal = s.stateUnit.lastRefusal := by
  simp only [holdSwitchZone]; (repeat' split) <;> simp

@[simp] theorem holdSwitchZone_fold_frame (l : List Zone) (s : State) :
    (l.foldl holdSwitchZone s).records = s.records ∧ (l.foldl holdSwitchZone s).freeCount = s.freeCount ∧
    (l.foldl holdSwitchZone s).pending = s.pending ∧
    (l.foldl holdSwitchZone s).connection.permit = s.connection.permit ∧
    (l.foldl holdSwitchZone s).zones.channels = s.zones.channels ∧
    (l.foldl holdSwitchZone s).lines.inputs = s.lines.inputs ∧
    (l.foldl holdSwitchZone s).lines.sample = s.lines.sample ∧
    (l.foldl holdSwitchZone s).lines.coolant = s.lines.coolant ∧
    (l.foldl holdSwitchZone s).lines.timeBase = s.lines.timeBase ∧
    (l.foldl holdSwitchZone s).lines.minute = s.lines.minute ∧
    (l.foldl holdSwitchZone s).stateUnit.settings = s.stateUnit.settings ∧
    (l.foldl holdSwitchZone s).stateUnit.restart = s.stateUnit.restart ∧
    (l.foldl holdSwitchZone s).stateUnit.lastRefusal = s.stateUnit.lastRefusal := by
  induction l generalizing s with
  | nil => simp
  | cons a l ih => simp [ih]

@[simp] theorem holdSwitchChanged_frame (s : State) :
    (holdSwitchChanged s).records = s.records ∧ (holdSwitchChanged s).freeCount = s.freeCount ∧
    (holdSwitchChanged s).pending = s.pending ∧ (holdSwitchChanged s).connection.permit = s.connection.permit ∧
    (holdSwitchChanged s).zones.channels = s.zones.channels ∧ (holdSwitchChanged s).lines.inputs = s.lines.inputs ∧
    (holdSwitchChanged s).lines.sample = s.lines.sample ∧ (holdSwitchChanged s).lines.coolant = s.lines.coolant ∧
    (holdSwitchChanged s).lines.timeBase = s.lines.timeBase ∧ (holdSwitchChanged s).lines.minute = s.lines.minute ∧
    (holdSwitchChanged s).stateUnit.settings = s.stateUnit.settings ∧
    (holdSwitchChanged s).stateUnit.restart = s.stateUnit.restart ∧
    (holdSwitchChanged s).stateUnit.lastRefusal = s.stateUnit.lastRefusal := by
  simp [holdSwitchChanged]

@[simp] theorem returnToNormal_frame (p : PortId) (z : Zone) (s : State) :
    (returnToNormal p z s).records = s.records ∧ (returnToNormal p z s).pending = s.pending ∧
    (returnToNormal p z s).connection.permit = s.connection.permit ∧
    (returnToNormal p z s).zones.channels = s.zones.channels ∧ (returnToNormal p z s).lines.inputs = s.lines.inputs ∧
    (returnToNormal p z s).lines.sample = s.lines.sample ∧ (returnToNormal p z s).lines.coolant = s.lines.coolant ∧
    (returnToNormal p z s).lines.timeBase = s.lines.timeBase ∧ (returnToNormal p z s).lines.minute = s.lines.minute ∧
    (returnToNormal p z s).stateUnit.settings = s.stateUnit.settings ∧
    (returnToNormal p z s).stateUnit.restart = s.stateUnit.restart ∧
    (returnToNormal p z s).stateUnit.lastRefusal = s.stateUnit.lastRefusal := by
  simp [returnToNormal]

@[simp] theorem abortZone_frame (p : PortId) (z : Zone) (s : State) :
    (abortZone p z s).records = s.records ∧ (abortZone p z s).freeCount = s.freeCount ∧
    (abortZone p z s).pending = s.pending ∧ (abortZone p z s).connection.permit = s.connection.permit ∧
    (abortZone p z s).zones.channels = s.zones.channels ∧ (abortZone p z s).lines.inputs = s.lines.inputs ∧
    (abortZone p z s).lines.sample = s.lines.sample ∧ (abortZone p z s).lines.coolant = s.lines.coolant ∧
    (abortZone p z s).lines.timeBase = s.lines.timeBase ∧ (abortZone p z s).lines.minute = s.lines.minute ∧
    (abortZone p z s).stateUnit.settings = s.stateUnit.settings ∧
    (abortZone p z s).stateUnit.restart = s.stateUnit.restart ∧
    (abortZone p z s).stateUnit.lastRefusal = s.stateUnit.lastRefusal := by
  simp [abortZone]

@[simp] theorem evaluateA_frame (s : State) :
    (evaluateA s).records = s.records ∧ (evaluateA s).balance = s.balance ∧ (evaluateA s).envelope = s.envelope ∧
    (evaluateA s).monitor = s.monitor ∧ (evaluateA s).connection = s.connection ∧ (evaluateA s).zones = s.zones ∧
    (evaluateA s).cooling = s.cooling ∧ (evaluateA s).lines = s.lines ∧ (evaluateA s).stateUnit = s.stateUnit ∧
    (evaluateA s).portUnit = s.portUnit ∧ (evaluateA s).freeCount = s.freeCount ∧ (evaluateA s).pending = s.pending := by
  simp only [evaluateA]; (repeat' split) <;> simp

@[simp] theorem evaluateB_frame (s : State) :
    (evaluateB s).records = s.records ∧ (evaluateB s).balance = s.balance ∧ (evaluateB s).envelope = s.envelope ∧
    (evaluateB s).monitor = s.monitor ∧ (evaluateB s).connection = s.connection ∧ (evaluateB s).zones = s.zones ∧
    (evaluateB s).cooling = s.cooling ∧ (evaluateB s).lines = s.lines ∧ (evaluateB s).stateUnit = s.stateUnit ∧
    (evaluateB s).portUnit = s.portUnit ∧ (evaluateB s).freeCount = s.freeCount ∧ (evaluateB s).pending = s.pending := by
  simp only [evaluateB]; (repeat' split) <;> simp

@[simp] theorem watchPublication_frame (s : State) :
    (watchPublication s).records = s.records ∧ (watchPublication s).balance = s.balance ∧
    (watchPublication s).envelope = s.envelope ∧ (watchPublication s).monitor = s.monitor ∧
    (watchPublication s).connection = s.connection ∧ (watchPublication s).zones = s.zones ∧
    (watchPublication s).cooling = s.cooling ∧ (watchPublication s).lines = s.lines ∧
    (watchPublication s).stateUnit = s.stateUnit ∧ (watchPublication s).portUnit = s.portUnit ∧
    (watchPublication s).freeCount = s.freeCount ∧ (watchPublication s).pending = s.pending := by
  simp [watchPublication]

@[simp] theorem limitEffects_frame (c : TripCause) (l : Location) (s : State) :
    (limitEffects c l s).records = s.records ∧ (limitEffects c l s).zones = s.zones ∧
    (limitEffects c l s).cooling = s.cooling ∧ (limitEffects c l s).freeCount = s.freeCount ∧
    (limitEffects c l s).pending = s.pending ∧ (limitEffects c l s).connection.permit = s.connection.permit ∧
    (limitEffects c l s).lines.inputs = s.lines.inputs ∧ (limitEffects c l s).lines.sample = s.lines.sample ∧
    (limitEffects c l s).lines.coolant = s.lines.coolant ∧ (limitEffects c l s).lines.timeBase = s.lines.timeBase ∧
    (limitEffects c l s).lines.minute = s.lines.minute ∧
    (limitEffects c l s).stateUnit.settings = s.stateUnit.settings ∧
    (limitEffects c l s).stateUnit.restart = s.stateUnit.restart ∧
    (limitEffects c l s).stateUnit.lastRefusal = s.stateUnit.lastRefusal ∧
    (limitEffects c l s).lines.outputs.agent = s.lines.outputs.agent ∧
    (limitEffects c l s).lines.outputs.rackFans = s.lines.outputs.rackFans ∧
    (limitEffects c l s).lines.outputs.pump = s.lines.outputs.pump ∧
    (limitEffects c l s).lines.outputs.exhaust = s.lines.outputs.exhaust ∧
    (limitEffects c l s).lines.outputs.condenser = s.lines.outputs.condenser ∧
    (limitEffects c l s).lines.outputs.chillerRun = s.lines.outputs.chillerRun ∧
    (limitEffects c l s).lines.outputs.heater = s.lines.outputs.heater ∧
    (limitEffects c l s).lines.outputs.dampersOpen = s.lines.outputs.dampersOpen := by
  simp [limitEffects]

@[simp] theorem sampleCell_frame (b : Bool) (n : Nat) (r : Option Nat × Option Nat) (s : State) :
    (sampleCell b n r s).zones = s.zones ∧ (sampleCell b n r s).cooling = s.cooling ∧
    (sampleCell b n r s).freeCount = s.freeCount ∧ (sampleCell b n r s).pending = s.pending ∧
    (sampleCell b n r s).connection.permit = s.connection.permit ∧
    (sampleCell b n r s).lines.inputs = s.lines.inputs ∧ (sampleCell b n r s).lines.sample = s.lines.sample ∧
    (sampleCell b n r s).lines.coolant = s.lines.coolant ∧ (sampleCell b n r s).lines.timeBase = s.lines.timeBase ∧
    (sampleCell b n r s).lines.minute = s.lines.minute ∧
    (sampleCell b n r s).stateUnit.settings = s.stateUnit.settings ∧
    (sampleCell b n r s).stateUnit.restart = s.stateUnit.restart ∧
    (sampleCell b n r s).stateUnit.lastRefusal = s.stateUnit.lastRefusal ∧
    (sampleCell b n r s).lines.outputs.agent = s.lines.outputs.agent ∧
    (sampleCell b n r s).lines.outputs.rackFans = s.lines.outputs.rackFans ∧
    (sampleCell b n r s).lines.outputs.pump = s.lines.outputs.pump ∧
    (sampleCell b n r s).lines.outputs.exhaust = s.lines.outputs.exhaust ∧
    (sampleCell b n r s).lines.outputs.condenser = s.lines.outputs.condenser ∧
    (sampleCell b n r s).lines.outputs.chillerRun = s.lines.outputs.chillerRun ∧
    (sampleCell b n r s).lines.outputs.heater = s.lines.outputs.heater ∧
    (sampleCell b n r s).lines.outputs.dampersOpen = s.lines.outputs.dampersOpen := by
  simp only [sampleCell]; (repeat' split) <;> simp

@[simp] theorem sampleSensor_frame (n : Nat) (r : Option Int) (s : State) :
    (sampleSensor n r s).zones = s.zones ∧ (sampleSensor n r s).cooling = s.cooling ∧
    (sampleSensor n r s).freeCount = s.freeCount ∧ (sampleSensor n r s).pending = s.pending ∧
    (sampleSensor n r s).connection.permit = s.connection.permit ∧
    (sampleSensor n r s).lines.inputs = s.lines.inputs ∧ (sampleSensor n r s).lines.sample = s.lines.sample ∧
    (sampleSensor n r s).lines.coolant = s.lines.coolant ∧ (sampleSensor n r s).lines.timeBase = s.lines.timeBase ∧
    (sampleSensor n r s).lines.minute = s.lines.minute ∧
    (sampleSensor n r s).stateUnit.settings = s.stateUnit.settings ∧
    (sampleSensor n r s).stateUnit.restart = s.stateUnit.restart ∧
    (sampleSensor n r s).stateUnit.lastRefusal = s.stateUnit.lastRefusal ∧
    (sampleSensor n r s).lines.outputs.agent = s.lines.outputs.agent ∧
    (sampleSensor n r s).lines.outputs.rackFans = s.lines.outputs.rackFans ∧
    (sampleSensor n r s).lines.outputs.pump = s.lines.outputs.pump ∧
    (sampleSensor n r s).lines.outputs.exhaust = s.lines.outputs.exhaust ∧
    (sampleSensor n r s).lines.outputs.condenser = s.lines.outputs.condenser ∧
    (sampleSensor n r s).lines.outputs.chillerRun = s.lines.outputs.chillerRun ∧
    (sampleSensor n r s).lines.outputs.heater = s.lines.outputs.heater ∧
    (sampleSensor n r s).lines.outputs.dampersOpen = s.lines.outputs.dampersOpen := by
  simp only [sampleSensor]; (repeat' split) <;> simp

@[simp] theorem sampleCells_frame (b : Bool) (n : Nat) (l : List (Option Nat × Option Nat)) (s : State) :
    (sampleCells b n l s).zones = s.zones ∧ (sampleCells b n l s).cooling = s.cooling ∧
    (sampleCells b n l s).freeCount = s.freeCount ∧ (sampleCells b n l s).pending = s.pending ∧
    (sampleCells b n l s).connection.permit = s.connection.permit ∧
    (sampleCells b n l s).lines.inputs = s.lines.inputs ∧ (sampleCells b n l s).lines.sample = s.lines.sample ∧
    (sampleCells b n l s).lines.coolant = s.lines.coolant ∧ (sampleCells b n l s).lines.timeBase = s.lines.timeBase ∧
    (sampleCells b n l s).lines.minute = s.lines.minute ∧
    (sampleCells b n l s).stateUnit.settings = s.stateUnit.settings ∧
    (sampleCells b n l s).stateUnit.restart = s.stateUnit.restart ∧
    (sampleCells b n l s).stateUnit.lastRefusal = s.stateUnit.lastRefusal ∧
    (sampleCells b n l s).lines.outputs.agent = s.lines.outputs.agent ∧
    (sampleCells b n l s).lines.outputs.rackFans = s.lines.outputs.rackFans ∧
    (sampleCells b n l s).lines.outputs.pump = s.lines.outputs.pump ∧
    (sampleCells b n l s).lines.outputs.exhaust = s.lines.outputs.exhaust ∧
    (sampleCells b n l s).lines.outputs.condenser = s.lines.outputs.condenser ∧
    (sampleCells b n l s).lines.outputs.chillerRun = s.lines.outputs.chillerRun ∧
    (sampleCells b n l s).lines.outputs.heater = s.lines.outputs.heater ∧
    (sampleCells b n l s).lines.outputs.dampersOpen = s.lines.outputs.dampersOpen := by
  fun_induction sampleCells <;> simp_all

@[simp] theorem sampleSensors_frame (n : Nat) (l : List (Option Int)) (s : State) :
    (sampleSensors n l s).zones = s.zones ∧ (sampleSensors n l s).cooling = s.cooling ∧
    (sampleSensors n l s).freeCount = s.freeCount ∧ (sampleSensors n l s).pending = s.pending ∧
    (sampleSensors n l s).connection.permit = s.connection.permit ∧
    (sampleSensors n l s).lines.inputs = s.lines.inputs ∧ (sampleSensors n l s).lines.sample = s.lines.sample ∧
    (sampleSensors n l s).lines.coolant = s.lines.coolant ∧ (sampleSensors n l s).lines.timeBase = s.lines.timeBase ∧
    (sampleSensors n l s).lines.minute = s.lines.minute ∧
    (sampleSensors n l s).stateUnit.settings = s.stateUnit.settings ∧
    (sampleSensors n l s).stateUnit.restart = s.stateUnit.restart ∧
    (sampleSensors n l s).stateUnit.lastRefusal = s.stateUnit.lastRefusal ∧
    (sampleSensors n l s).lines.outputs.agent = s.lines.outputs.agent ∧
    (sampleSensors n l s).lines.outputs.rackFans = s.lines.outputs.rackFans ∧
    (sampleSensors n l s).lines.outputs.pump = s.lines.outputs.pump ∧
    (sampleSensors n l s).lines.outputs.exhaust = s.lines.outputs.exhaust ∧
    (sampleSensors n l s).lines.outputs.condenser = s.lines.outputs.condenser ∧
    (sampleSensors n l s).lines.outputs.chillerRun = s.lines.outputs.chillerRun ∧
    (sampleSensors n l s).lines.outputs.heater = s.lines.outputs.heater ∧
    (sampleSensors n l s).lines.outputs.dampersOpen = s.lines.outputs.dampersOpen := by
  fun_induction sampleSensors <;> simp_all

@[simp] theorem scanDelivery_frame (n : Nat) (a : ScanAnswer) (s : State) :
    (scanDelivery n a s).zones = s.zones ∧ (scanDelivery n a s).cooling = s.cooling ∧
    (scanDelivery n a s).freeCount = s.freeCount ∧ (scanDelivery n a s).pending = s.pending ∧
    (scanDelivery n a s).connection.permit = s.connection.permit ∧
    (scanDelivery n a s).lines.inputs = s.lines.inputs ∧ (scanDelivery n a s).lines.sample = s.lines.sample ∧
    (scanDelivery n a s).lines.coolant = s.lines.coolant ∧ (scanDelivery n a s).lines.timeBase = s.lines.timeBase ∧
    (scanDelivery n a s).lines.minute = s.lines.minute ∧
    (scanDelivery n a s).stateUnit.settings = s.stateUnit.settings ∧
    (scanDelivery n a s).stateUnit.restart = s.stateUnit.restart ∧
    (scanDelivery n a s).stateUnit.lastRefusal = s.stateUnit.lastRefusal ∧
    (scanDelivery n a s).lines.outputs.agent = s.lines.outputs.agent ∧
    (scanDelivery n a s).lines.outputs.rackFans = s.lines.outputs.rackFans ∧
    (scanDelivery n a s).lines.outputs.pump = s.lines.outputs.pump ∧
    (scanDelivery n a s).lines.outputs.exhaust = s.lines.outputs.exhaust ∧
    (scanDelivery n a s).lines.outputs.condenser = s.lines.outputs.condenser ∧
    (scanDelivery n a s).lines.outputs.chillerRun = s.lines.outputs.chillerRun ∧
    (scanDelivery n a s).lines.outputs.heater = s.lines.outputs.heater ∧
    (scanDelivery n a s).lines.outputs.dampersOpen = s.lines.outputs.dampersOpen := by
  simp only [scanDelivery]; (repeat' split) <;> simp

@[simp] theorem ageCell_frame (l : Nat × Nat) (n : Nat) (s : State) :
    (ageCell l s n).ring = s.ring ∧ (ageCell l s n).balance = s.balance ∧ (ageCell l s n).zones = s.zones ∧
    (ageCell l s n).cooling = s.cooling ∧ (ageCell l s n).stateUnit = s.stateUnit ∧
    (ageCell l s n).freeCount = s.freeCount ∧ (ageCell l s n).pending = s.pending ∧
    (ageCell l s n).connection.permit = s.connection.permit ∧ (ageCell l s n).lines.inputs = s.lines.inputs ∧
    (ageCell l s n).lines.sample = s.lines.sample ∧ (ageCell l s n).lines.coolant = s.lines.coolant ∧
    (ageCell l s n).lines.timeBase = s.lines.timeBase ∧ (ageCell l s n).lines.minute = s.lines.minute ∧
    (ageCell l s n).lines.outputs.agent = s.lines.outputs.agent ∧
    (ageCell l s n).lines.outputs.rackFans = s.lines.outputs.rackFans ∧
    (ageCell l s n).lines.outputs.pump = s.lines.outputs.pump ∧
    (ageCell l s n).lines.outputs.exhaust = s.lines.outputs.exhaust ∧
    (ageCell l s n).lines.outputs.condenser = s.lines.outputs.condenser ∧
    (ageCell l s n).lines.outputs.chillerRun = s.lines.outputs.chillerRun ∧
    (ageCell l s n).lines.outputs.heater = s.lines.outputs.heater ∧
    (ageCell l s n).lines.outputs.dampersOpen = s.lines.outputs.dampersOpen := by
  simp only [ageCell]; (repeat' split) <;> simp

@[simp] theorem ageSensor_frame (l : Nat × Nat) (n : Nat) (s : State) :
    (ageSensor l s n).ring = s.ring ∧ (ageSensor l s n).balance = s.balance ∧
    (ageSensor l s n).envelope = s.envelope ∧ (ageSensor l s n).monitor = s.monitor ∧
    (ageSensor l s n).connection = s.connection ∧ (ageSensor l s n).zones = s.zones ∧
    (ageSensor l s n).cooling = s.cooling ∧ (ageSensor l s n).lines = s.lines ∧
    (ageSensor l s n).stateUnit = s.stateUnit ∧ (ageSensor l s n).freeCount = s.freeCount ∧
    (ageSensor l s n).pending = s.pending := by
  simp only [ageSensor]; (repeat' split) <;> simp

@[simp] theorem ageCell_fold_frame (p : Nat × Nat) (l : List Nat) (s : State) :
    (l.foldl (ageCell p) s).ring = s.ring ∧ (l.foldl (ageCell p) s).balance = s.balance ∧
    (l.foldl (ageCell p) s).zones = s.zones ∧ (l.foldl (ageCell p) s).cooling = s.cooling ∧
    (l.foldl (ageCell p) s).stateUnit = s.stateUnit ∧ (l.foldl (ageCell p) s).freeCount = s.freeCount ∧
    (l.foldl (ageCell p) s).pending = s.pending ∧ (l.foldl (ageCell p) s).connection.permit = s.connection.permit ∧
    (l.foldl (ageCell p) s).lines.inputs = s.lines.inputs ∧ (l.foldl (ageCell p) s).lines.sample = s.lines.sample ∧
    (l.foldl (ageCell p) s).lines.coolant = s.lines.coolant ∧
    (l.foldl (ageCell p) s).lines.timeBase = s.lines.timeBase ∧
    (l.foldl (ageCell p) s).lines.minute = s.lines.minute ∧
    (l.foldl (ageCell p) s).lines.outputs.agent = s.lines.outputs.agent ∧
    (l.foldl (ageCell p) s).lines.outputs.rackFans = s.lines.outputs.rackFans ∧
    (l.foldl (ageCell p) s).lines.outputs.pump = s.lines.outputs.pump ∧
    (l.foldl (ageCell p) s).lines.outputs.exhaust = s.lines.outputs.exhaust ∧
    (l.foldl (ageCell p) s).lines.outputs.condenser = s.lines.outputs.condenser ∧
    (l.foldl (ageCell p) s).lines.outputs.chillerRun = s.lines.outputs.chillerRun ∧
    (l.foldl (ageCell p) s).lines.outputs.heater = s.lines.outputs.heater ∧
    (l.foldl (ageCell p) s).lines.outputs.dampersOpen = s.lines.outputs.dampersOpen := by
  induction l generalizing s with
  | nil => simp
  | cons a l ih => simp [ih]

@[simp] theorem ageSensor_fold_frame (p : Nat × Nat) (l : List Nat) (s : State) :
    (l.foldl (ageSensor p) s).ring = s.ring ∧ (l.foldl (ageSensor p) s).balance = s.balance ∧
    (l.foldl (ageSensor p) s).envelope = s.envelope ∧ (l.foldl (ageSensor p) s).monitor = s.monitor ∧
    (l.foldl (ageSensor p) s).connection = s.connection ∧ (l.foldl (ageSensor p) s).zones = s.zones ∧
    (l.foldl (ageSensor p) s).cooling = s.cooling ∧ (l.foldl (ageSensor p) s).lines = s.lines ∧
    (l.foldl (ageSensor p) s).stateUnit = s.stateUnit ∧ (l.foldl (ageSensor p) s).freeCount = s.freeCount ∧
    (l.foldl (ageSensor p) s).pending = s.pending := by
  induction l generalizing s with
  | nil => simp
  | cons a l ih => simp [ih]

@[simp] theorem ageRecords_frame (b : Bool) (s : State) :
    (ageRecords b s).ring = s.ring ∧ (ageRecords b s).balance = s.balance ∧ (ageRecords b s).zones = s.zones ∧
    (ageRecords b s).cooling = s.cooling ∧ (ageRecords b s).stateUnit = s.stateUnit ∧
    (ageRecords b s).freeCount = s.freeCount ∧ (ageRecords b s).pending = s.pending ∧
    (ageRecords b s).connection.permit = s.connection.permit ∧ (ageRecords b s).lines.inputs = s.lines.inputs ∧
    (ageRecords b s).lines.sample = s.lines.sample ∧ (ageRecords b s).lines.coolant = s.lines.coolant ∧
    (ageRecords b s).lines.timeBase = s.lines.timeBase ∧ (ageRecords b s).lines.minute = s.lines.minute ∧
    (ageRecords b s).lines.outputs.agent = s.lines.outputs.agent ∧
    (ageRecords b s).lines.outputs.rackFans = s.lines.outputs.rackFans ∧
    (ageRecords b s).lines.outputs.pump = s.lines.outputs.pump ∧
    (ageRecords b s).lines.outputs.exhaust = s.lines.outputs.exhaust ∧
    (ageRecords b s).lines.outputs.condenser = s.lines.outputs.condenser ∧
    (ageRecords b s).lines.outputs.chillerRun = s.lines.outputs.chillerRun ∧
    (ageRecords b s).lines.outputs.heater = s.lines.outputs.heater ∧
    (ageRecords b s).lines.outputs.dampersOpen = s.lines.outputs.dampersOpen := by
  simp [ageRecords]

@[simp] theorem sumCheck_frame (s : State) :
    (sumCheck s).ring = s.ring ∧ (sumCheck s).balance = s.balance ∧ (sumCheck s).envelope = s.envelope ∧
    (sumCheck s).monitor = s.monitor ∧ (sumCheck s).connection = s.connection ∧ (sumCheck s).zones = s.zones ∧
    (sumCheck s).cooling = s.cooling ∧ (sumCheck s).lines = s.lines ∧ (sumCheck s).stateUnit = s.stateUnit ∧
    (sumCheck s).freeCount = s.freeCount ∧ (sumCheck s).pending = s.pending := by
  simp only [sumCheck]; (repeat' split) <;> simp

@[simp] theorem publish_frame (s : State) :
    (publish s).pending = s.pending ∧ (publish s).connection.permit = s.connection.permit ∧
    (publish s).zones.channels = s.zones.channels ∧ (publish s).lines.inputs = s.lines.inputs ∧
    (publish s).lines.sample = s.lines.sample ∧ (publish s).lines.coolant = s.lines.coolant ∧
    (publish s).lines.timeBase = s.lines.timeBase ∧ (publish s).lines.minute = s.lines.minute ∧
    (publish s).stateUnit.settings = s.stateUnit.settings ∧ (publish s).stateUnit.restart = s.stateUnit.restart ∧
    (publish s).stateUnit.lastRefusal = s.stateUnit.lastRefusal := by
  simp [publish]

@[simp] theorem recordsCycleEnd_frame (b : Bool) (s : State) :
    (recordsCycleEnd b s).pending = s.pending ∧ (recordsCycleEnd b s).connection.permit = s.connection.permit ∧
    (recordsCycleEnd b s).zones.channels = s.zones.channels ∧ (recordsCycleEnd b s).lines.inputs = s.lines.inputs ∧
    (recordsCycleEnd b s).lines.sample = s.lines.sample ∧ (recordsCycleEnd b s).lines.coolant = s.lines.coolant ∧
    (recordsCycleEnd b s).lines.timeBase = s.lines.timeBase ∧ (recordsCycleEnd b s).lines.minute = s.lines.minute ∧
    (recordsCycleEnd b s).stateUnit.settings = s.stateUnit.settings ∧
    (recordsCycleEnd b s).stateUnit.restart = s.stateUnit.restart ∧
    (recordsCycleEnd b s).stateUnit.lastRefusal = s.stateUnit.lastRefusal := by
  simp [recordsCycleEnd]

@[simp] theorem rebuildRecords_frame (s : State) :
    (rebuildRecords s).ring = s.ring ∧ (rebuildRecords s).balance = s.balance ∧
    (rebuildRecords s).envelope = s.envelope ∧ (rebuildRecords s).monitor = s.monitor ∧
    (rebuildRecords s).connection = s.connection ∧ (rebuildRecords s).zones = s.zones ∧
    (rebuildRecords s).cooling = s.cooling ∧ (rebuildRecords s).lines = s.lines ∧
    (rebuildRecords s).stateUnit = s.stateUnit ∧ (rebuildRecords s).portUnit = s.portUnit ∧
    (rebuildRecords s).freeCount = s.freeCount ∧ (rebuildRecords s).pending = s.pending := by
  simp [rebuildRecords]

@[simp] theorem decideRing_frame (s : State) :
    (decideRing s).records = s.records ∧ (decideRing s).balance = s.balance ∧ (decideRing s).zones = s.zones ∧
    (decideRing s).cooling = s.cooling ∧ (decideRing s).stateUnit = s.stateUnit ∧
    (decideRing s).freeCount = s.freeCount ∧ (decideRing s).pending = s.pending ∧
    (decideRing s).connection.permit = s.connection.permit ∧ (decideRing s).lines.inputs = s.lines.inputs ∧
    (decideRing s).lines.sample = s.lines.sample ∧ (decideRing s).lines.coolant = s.lines.coolant ∧
    (decideRing s).lines.timeBase = s.lines.timeBase ∧ (decideRing s).lines.minute = s.lines.minute ∧
    (decideRing s).lines.outputs.agent = s.lines.outputs.agent ∧
    (decideRing s).lines.outputs.rackFans = s.lines.outputs.rackFans ∧
    (decideRing s).lines.outputs.pump = s.lines.outputs.pump ∧
    (decideRing s).lines.outputs.exhaust = s.lines.outputs.exhaust ∧
    (decideRing s).lines.outputs.condenser = s.lines.outputs.condenser ∧
    (decideRing s).lines.outputs.chillerRun = s.lines.outputs.chillerRun ∧
    (decideRing s).lines.outputs.heater = s.lines.outputs.heater ∧
    (decideRing s).lines.outputs.dampersOpen = s.lines.outputs.dampersOpen := by
  simp only [decideRing]; (repeat' split) <;> simp

@[simp] theorem sleepAtCycleEnd_frame (s : State) :
    (sleepAtCycleEnd s).records = s.records ∧ (sleepAtCycleEnd s).monitor = s.monitor ∧
    (sleepAtCycleEnd s).connection = s.connection ∧ (sleepAtCycleEnd s).zones = s.zones ∧
    (sleepAtCycleEnd s).cooling = s.cooling ∧ (sleepAtCycleEnd s).lines = s.lines ∧
    (sleepAtCycleEnd s).freeCount = s.freeCount ∧ (sleepAtCycleEnd s).pending = s.pending ∧
    (sleepAtCycleEnd s).stateUnit.settings = s.stateUnit.settings ∧
    (sleepAtCycleEnd s).stateUnit.restart = s.stateUnit.restart ∧
    (sleepAtCycleEnd s).stateUnit.lastRefusal = s.stateUnit.lastRefusal := by
  simp only [sleepAtCycleEnd]; (repeat' split) <;> simp

@[simp] theorem takePendingStart_frame (s : State) :
    (takePendingStart s).records = s.records ∧ (takePendingStart s).monitor = s.monitor ∧
    (takePendingStart s).connection = s.connection ∧ (takePendingStart s).zones = s.zones ∧
    (takePendingStart s).cooling = s.cooling ∧ (takePendingStart s).lines = s.lines ∧
    (takePendingStart s).freeCount = s.freeCount ∧ (takePendingStart s).pending = s.pending ∧
    (takePendingStart s).stateUnit.settings = s.stateUnit.settings ∧
    (takePendingStart s).stateUnit.restart = s.stateUnit.restart ∧
    (takePendingStart s).stateUnit.lastRefusal = s.stateUnit.lastRefusal := by
  simp only [takePendingStart]; (repeat' split) <;> simp

@[simp] theorem takePendingEnumeration_frame (s : State) :
    (takePendingEnumeration s).records = s.records ∧ (takePendingEnumeration s).balance = s.balance ∧
    (takePendingEnumeration s).zones = s.zones ∧ (takePendingEnumeration s).cooling = s.cooling ∧
    (takePendingEnumeration s).stateUnit = s.stateUnit ∧ (takePendingEnumeration s).freeCount = s.freeCount ∧
    (takePendingEnumeration s).pending = s.pending ∧
    (takePendingEnumeration s).connection.permit = s.connection.permit ∧
    (takePendingEnumeration s).lines.inputs = s.lines.inputs ∧
    (takePendingEnumeration s).lines.sample = s.lines.sample ∧
    (takePendingEnumeration s).lines.coolant = s.lines.coolant ∧
    (takePendingEnumeration s).lines.timeBase = s.lines.timeBase ∧
    (takePendingEnumeration s).lines.minute = s.lines.minute ∧
    (takePendingEnumeration s).lines.outputs.agent = s.lines.outputs.agent ∧
    (takePendingEnumeration s).lines.outputs.rackFans = s.lines.outputs.rackFans ∧
    (takePendingEnumeration s).lines.outputs.pump = s.lines.outputs.pump ∧
    (takePendingEnumeration s).lines.outputs.exhaust = s.lines.outputs.exhaust ∧
    (takePendingEnumeration s).lines.outputs.condenser = s.lines.outputs.condenser ∧
    (takePendingEnumeration s).lines.outputs.chillerRun = s.lines.outputs.chillerRun ∧
    (takePendingEnumeration s).lines.outputs.heater = s.lines.outputs.heater ∧
    (takePendingEnumeration s).lines.outputs.dampersOpen = s.lines.outputs.dampersOpen := by
  simp only [takePendingEnumeration]; (repeat' split) <;> simp

@[simp] theorem endCycle_frame (s : State) :
    (endCycle s).pending = s.pending ∧ (endCycle s).connection.permit = s.connection.permit ∧
    (endCycle s).zones.channels = s.zones.channels ∧ (endCycle s).lines.inputs = s.lines.inputs ∧
    (endCycle s).lines.sample = s.lines.sample ∧ (endCycle s).lines.coolant = s.lines.coolant ∧
    (endCycle s).lines.timeBase = s.lines.timeBase ∧ (endCycle s).lines.minute = s.lines.minute ∧
    (endCycle s).stateUnit.settings = s.stateUnit.settings ∧ (endCycle s).stateUnit.restart = s.stateUnit.restart ∧
    (endCycle s).stateUnit.lastRefusal = s.stateUnit.lastRefusal := by
  simp [endCycle]

@[simp] theorem beginAttempt_frame (j : Job) (p q : RingPort) (b : Bool) (f : Option RingPort) (s : State) :
    (beginAttempt j p q b f s).records = s.records ∧ (beginAttempt j p q b f s).balance = s.balance ∧
    (beginAttempt j p q b f s).envelope = s.envelope ∧ (beginAttempt j p q b f s).monitor = s.monitor ∧
    (beginAttempt j p q b f s).connection = s.connection ∧ (beginAttempt j p q b f s).zones = s.zones ∧
    (beginAttempt j p q b f s).cooling = s.cooling ∧ (beginAttempt j p q b f s).lines = s.lines ∧
    (beginAttempt j p q b f s).stateUnit = s.stateUnit ∧ (beginAttempt j p q b f s).portUnit = s.portUnit ∧
    (beginAttempt j p q b f s).freeCount = s.freeCount ∧ (beginAttempt j p q b f s).pending = s.pending := by
  simp [beginAttempt]

@[simp] theorem beginNodeSlot_frame (j : Job) (n : Nat) (s : State) :
    (beginNodeSlot j n s).records = s.records ∧ (beginNodeSlot j n s).balance = s.balance ∧
    (beginNodeSlot j n s).envelope = s.envelope ∧ (beginNodeSlot j n s).monitor = s.monitor ∧
    (beginNodeSlot j n s).connection = s.connection ∧ (beginNodeSlot j n s).zones = s.zones ∧
    (beginNodeSlot j n s).cooling = s.cooling ∧ (beginNodeSlot j n s).lines = s.lines ∧
    (beginNodeSlot j n s).stateUnit = s.stateUnit ∧ (beginNodeSlot j n s).portUnit = s.portUnit ∧
    (beginNodeSlot j n s).freeCount = s.freeCount ∧ (beginNodeSlot j n s).pending = s.pending := by
  simp only [beginNodeSlot]; (repeat' split) <;> simp

@[simp] theorem runSlots_frame (l : List Slot) (s : State) :
    (runSlots l s).pending = s.pending ∧ (runSlots l s).connection.permit = s.connection.permit ∧
    (runSlots l s).zones.channels = s.zones.channels ∧ (runSlots l s).lines.inputs = s.lines.inputs ∧
    (runSlots l s).lines.sample = s.lines.sample ∧ (runSlots l s).lines.coolant = s.lines.coolant ∧
    (runSlots l s).lines.timeBase = s.lines.timeBase ∧ (runSlots l s).lines.minute = s.lines.minute ∧
    (runSlots l s).stateUnit.settings = s.stateUnit.settings ∧
    (runSlots l s).stateUnit.restart = s.stateUnit.restart ∧
    (runSlots l s).stateUnit.lastRefusal = s.stateUnit.lastRefusal := by
  induction l generalizing s with
  | nil => simp [runSlots]
  | cons x l ih => simp only [runSlots]; (repeat' split) <;> simp [ih]

@[simp] theorem nextSlot_frame (s : State) :
    (nextSlot s).pending = s.pending ∧ (nextSlot s).connection.permit = s.connection.permit ∧
    (nextSlot s).zones.channels = s.zones.channels ∧ (nextSlot s).lines.inputs = s.lines.inputs ∧
    (nextSlot s).lines.sample = s.lines.sample ∧ (nextSlot s).lines.coolant = s.lines.coolant ∧
    (nextSlot s).lines.timeBase = s.lines.timeBase ∧ (nextSlot s).lines.minute = s.lines.minute ∧
    (nextSlot s).stateUnit.settings = s.stateUnit.settings ∧ (nextSlot s).stateUnit.restart = s.stateUnit.restart ∧
    (nextSlot s).stateUnit.lastRefusal = s.stateUnit.lastRefusal := by
  simp only [nextSlot]; (repeat' split) <;> simp

@[simp] theorem enumerationFailed_frame (r : EnumResult) (s : State) :
    (enumerationFailed r s).records = s.records ∧ (enumerationFailed r s).monitor = s.monitor ∧
    (enumerationFailed r s).connection = s.connection ∧ (enumerationFailed r s).zones = s.zones ∧
    (enumerationFailed r s).cooling = s.cooling ∧ (enumerationFailed r s).lines = s.lines ∧
    (enumerationFailed r s).freeCount = s.freeCount ∧ (enumerationFailed r s).pending = s.pending ∧
    (enumerationFailed r s).stateUnit.settings = s.stateUnit.settings ∧
    (enumerationFailed r s).stateUnit.restart = s.stateUnit.restart ∧
    (enumerationFailed r s).stateUnit.lastRefusal = s.stateUnit.lastRefusal := by
  simp [enumerationFailed]

@[simp] theorem enumerationSucceeded_frame (k : List NodeKind) (s : State) :
    (enumerationSucceeded k s).pending = s.pending ∧
    (enumerationSucceeded k s).connection.permit = s.connection.permit ∧
    (enumerationSucceeded k s).lines.inputs = s.lines.inputs ∧
    (enumerationSucceeded k s).lines.sample = s.lines.sample ∧
    (enumerationSucceeded k s).lines.coolant = s.lines.coolant ∧
    (enumerationSucceeded k s).lines.timeBase = s.lines.timeBase ∧
    (enumerationSucceeded k s).lines.minute = s.lines.minute ∧
    (enumerationSucceeded k s).stateUnit.settings = s.stateUnit.settings ∧
    (enumerationSucceeded k s).stateUnit.restart = s.stateUnit.restart ∧
    (enumerationSucceeded k s).stateUnit.lastRefusal = s.stateUnit.lastRefusal := by
  simp [enumerationSucceeded]

@[simp] theorem enumerationReturned_frame (l : List Byte) (s : State) :
    (enumerationReturned l s).pending = s.pending ∧
    (enumerationReturned l s).connection.permit = s.connection.permit ∧
    (enumerationReturned l s).lines.inputs = s.lines.inputs ∧
    (enumerationReturned l s).lines.sample = s.lines.sample ∧
    (enumerationReturned l s).lines.coolant = s.lines.coolant ∧
    (enumerationReturned l s).lines.timeBase = s.lines.timeBase ∧
    (enumerationReturned l s).lines.minute = s.lines.minute ∧
    (enumerationReturned l s).stateUnit.settings = s.stateUnit.settings ∧
    (enumerationReturned l s).stateUnit.restart = s.stateUnit.restart ∧
    (enumerationReturned l s).stateUnit.lastRefusal = s.stateUnit.lastRefusal := by
  simp only [enumerationReturned]; (repeat' split) <;> simp

@[simp] theorem heal_frame (s : State) :
    (heal s).records = s.records ∧ (heal s).balance = s.balance ∧ (heal s).zones = s.zones ∧
    (heal s).cooling = s.cooling ∧ (heal s).stateUnit = s.stateUnit ∧ (heal s).freeCount = s.freeCount ∧
    (heal s).pending = s.pending ∧ (heal s).connection.permit = s.connection.permit ∧
    (heal s).lines.inputs = s.lines.inputs ∧ (heal s).lines.sample = s.lines.sample ∧
    (heal s).lines.coolant = s.lines.coolant ∧ (heal s).lines.timeBase = s.lines.timeBase ∧
    (heal s).lines.minute = s.lines.minute ∧ (heal s).lines.outputs.agent = s.lines.outputs.agent ∧
    (heal s).lines.outputs.rackFans = s.lines.outputs.rackFans ∧ (heal s).lines.outputs.pump = s.lines.outputs.pump ∧
    (heal s).lines.outputs.exhaust = s.lines.outputs.exhaust ∧
    (heal s).lines.outputs.condenser = s.lines.outputs.condenser ∧
    (heal s).lines.outputs.chillerRun = s.lines.outputs.chillerRun ∧
    (heal s).lines.outputs.heater = s.lines.outputs.heater ∧
    (heal s).lines.outputs.dampersOpen = s.lines.outputs.dampersOpen := by
  simp [heal]

@[simp] theorem tokenReturned_frame (s : State) :
    (tokenReturned s).pending = s.pending ∧ (tokenReturned s).connection.permit = s.connection.permit ∧
    (tokenReturned s).zones.channels = s.zones.channels ∧ (tokenReturned s).lines.inputs = s.lines.inputs ∧
    (tokenReturned s).lines.sample = s.lines.sample ∧ (tokenReturned s).lines.coolant = s.lines.coolant ∧
    (tokenReturned s).lines.timeBase = s.lines.timeBase ∧ (tokenReturned s).lines.minute = s.lines.minute ∧
    (tokenReturned s).stateUnit.settings = s.stateUnit.settings ∧
    (tokenReturned s).stateUnit.restart = s.stateUnit.restart ∧
    (tokenReturned s).stateUnit.lastRefusal = s.stateUnit.lastRefusal := by
  simp only [tokenReturned]; (repeat' split) <;> simp

@[simp] theorem tokenWasLost_frame (s : State) :
    (tokenWasLost s).pending = s.pending ∧ (tokenWasLost s).connection.permit = s.connection.permit ∧
    (tokenWasLost s).zones.channels = s.zones.channels ∧ (tokenWasLost s).lines.inputs = s.lines.inputs ∧
    (tokenWasLost s).lines.sample = s.lines.sample ∧ (tokenWasLost s).lines.coolant = s.lines.coolant ∧
    (tokenWasLost s).lines.timeBase = s.lines.timeBase ∧ (tokenWasLost s).lines.minute = s.lines.minute ∧
    (tokenWasLost s).stateUnit.settings = s.stateUnit.settings ∧
    (tokenWasLost s).stateUnit.restart = s.stateUnit.restart ∧
    (tokenWasLost s).stateUnit.lastRefusal = s.stateUnit.lastRefusal := by
  simp only [tokenWasLost]; (repeat' split) <;> simp

@[simp] theorem nodeAnswered_frame (n : Nat) (p : RingPort) (s : State) :
    (nodeAnswered n p s).records = s.records ∧ (nodeAnswered n p s).balance = s.balance ∧
    (nodeAnswered n p s).envelope = s.envelope ∧ (nodeAnswered n p s).monitor = s.monitor ∧
    (nodeAnswered n p s).connection = s.connection ∧ (nodeAnswered n p s).zones = s.zones ∧
    (nodeAnswered n p s).cooling = s.cooling ∧ (nodeAnswered n p s).lines = s.lines ∧
    (nodeAnswered n p s).stateUnit = s.stateUnit ∧ (nodeAnswered n p s).portUnit = s.portUnit ∧
    (nodeAnswered n p s).freeCount = s.freeCount ∧ (nodeAnswered n p s).pending = s.pending := by
  simp only [nodeAnswered]; (repeat' split) <;> simp

@[simp] theorem scanAnswered_frame (n : Nat) (a : ScanAnswer) (s : State) :
    (scanAnswered n a s).zones = s.zones ∧ (scanAnswered n a s).cooling = s.cooling ∧
    (scanAnswered n a s).freeCount = s.freeCount ∧ (scanAnswered n a s).pending = s.pending ∧
    (scanAnswered n a s).connection.permit = s.connection.permit ∧
    (scanAnswered n a s).lines.inputs = s.lines.inputs ∧ (scanAnswered n a s).lines.sample = s.lines.sample ∧
    (scanAnswered n a s).lines.coolant = s.lines.coolant ∧ (scanAnswered n a s).lines.timeBase = s.lines.timeBase ∧
    (scanAnswered n a s).lines.minute = s.lines.minute ∧
    (scanAnswered n a s).stateUnit.settings = s.stateUnit.settings ∧
    (scanAnswered n a s).stateUnit.restart = s.stateUnit.restart ∧
    (scanAnswered n a s).stateUnit.lastRefusal = s.stateUnit.lastRefusal ∧
    (scanAnswered n a s).lines.outputs.agent = s.lines.outputs.agent ∧
    (scanAnswered n a s).lines.outputs.rackFans = s.lines.outputs.rackFans ∧
    (scanAnswered n a s).lines.outputs.pump = s.lines.outputs.pump ∧
    (scanAnswered n a s).lines.outputs.exhaust = s.lines.outputs.exhaust ∧
    (scanAnswered n a s).lines.outputs.condenser = s.lines.outputs.condenser ∧
    (scanAnswered n a s).lines.outputs.chillerRun = s.lines.outputs.chillerRun ∧
    (scanAnswered n a s).lines.outputs.heater = s.lines.outputs.heater ∧
    (scanAnswered n a s).lines.outputs.dampersOpen = s.lines.outputs.dampersOpen := by
  simp only [scanAnswered]; (repeat' split) <;> simp

@[simp] theorem deliverAnswer_frame (j : Job) (l : List Byte) (s : State) :
    (deliverAnswer j l s).pending = s.pending ∧ (deliverAnswer j l s).connection.permit = s.connection.permit ∧
    (deliverAnswer j l s).lines.inputs = s.lines.inputs ∧ (deliverAnswer j l s).lines.sample = s.lines.sample ∧
    (deliverAnswer j l s).lines.coolant = s.lines.coolant ∧ (deliverAnswer j l s).lines.timeBase = s.lines.timeBase ∧
    (deliverAnswer j l s).lines.minute = s.lines.minute ∧
    (deliverAnswer j l s).stateUnit.settings = s.stateUnit.settings ∧
    (deliverAnswer j l s).stateUnit.restart = s.stateUnit.restart ∧
    (deliverAnswer j l s).stateUnit.lastRefusal = s.stateUnit.lastRefusal := by
  simp only [deliverAnswer]; (repeat' split) <;> simp

@[simp] theorem acceptFrame_frame (a : Attempt) (f : RingFrame) (s : State) :
    (acceptFrame a f s).pending = s.pending ∧ (acceptFrame a f s).connection.permit = s.connection.permit ∧
    (acceptFrame a f s).lines.inputs = s.lines.inputs ∧ (acceptFrame a f s).lines.sample = s.lines.sample ∧
    (acceptFrame a f s).lines.coolant = s.lines.coolant ∧ (acceptFrame a f s).lines.timeBase = s.lines.timeBase ∧
    (acceptFrame a f s).lines.minute = s.lines.minute ∧
    (acceptFrame a f s).stateUnit.settings = s.stateUnit.settings ∧
    (acceptFrame a f s).stateUnit.restart = s.stateUnit.restart ∧
    (acceptFrame a f s).stateUnit.lastRefusal = s.stateUnit.lastRefusal := by
  simp only [acceptFrame]; (repeat' split) <;> simp

@[simp] theorem nodeSlotFailed_frame (j : Job) (n : Nat) (s : State) :
    (nodeSlotFailed j n s).pending = s.pending ∧ (nodeSlotFailed j n s).connection.permit = s.connection.permit ∧
    (nodeSlotFailed j n s).lines.inputs = s.lines.inputs ∧ (nodeSlotFailed j n s).lines.sample = s.lines.sample ∧
    (nodeSlotFailed j n s).lines.coolant = s.lines.coolant ∧
    (nodeSlotFailed j n s).lines.timeBase = s.lines.timeBase ∧ (nodeSlotFailed j n s).lines.minute = s.lines.minute ∧
    (nodeSlotFailed j n s).stateUnit.settings = s.stateUnit.settings ∧
    (nodeSlotFailed j n s).stateUnit.restart = s.stateUnit.restart ∧
    (nodeSlotFailed j n s).stateUnit.lastRefusal = s.stateUnit.lastRefusal := by
  simp only [nodeSlotFailed]; (repeat' split) <;> simp

@[simp] theorem slotFailed_frame (f : AttemptFailure) (j : Job) (s : State) :
    (slotFailed f j s).pending = s.pending ∧ (slotFailed f j s).connection.permit = s.connection.permit ∧
    (slotFailed f j s).lines.inputs = s.lines.inputs ∧ (slotFailed f j s).lines.sample = s.lines.sample ∧
    (slotFailed f j s).lines.coolant = s.lines.coolant ∧ (slotFailed f j s).lines.timeBase = s.lines.timeBase ∧
    (slotFailed f j s).lines.minute = s.lines.minute ∧ (slotFailed f j s).stateUnit.settings = s.stateUnit.settings ∧
    (slotFailed f j s).stateUnit.restart = s.stateUnit.restart ∧
    (slotFailed f j s).stateUnit.lastRefusal = s.stateUnit.lastRefusal := by
  simp only [slotFailed]; (repeat' split) <;> simp

@[simp] theorem failAttempt_frame (f : AttemptFailure) (a : Attempt) (s : State) :
    (failAttempt f a s).pending = s.pending ∧ (failAttempt f a s).connection.permit = s.connection.permit ∧
    (failAttempt f a s).lines.inputs = s.lines.inputs ∧ (failAttempt f a s).lines.sample = s.lines.sample ∧
    (failAttempt f a s).lines.coolant = s.lines.coolant ∧ (failAttempt f a s).lines.timeBase = s.lines.timeBase ∧
    (failAttempt f a s).lines.minute = s.lines.minute ∧
    (failAttempt f a s).stateUnit.settings = s.stateUnit.settings ∧
    (failAttempt f a s).stateUnit.restart = s.stateUnit.restart ∧
    (failAttempt f a s).stateUnit.lastRefusal = s.stateUnit.lastRefusal := by
  simp only [failAttempt]; (repeat' split) <;> simp

@[simp] theorem feed_frame (l : List Byte) (s : State) :
    ((feed l s).1).pending = s.pending ∧ ((feed l s).1).connection.permit = s.connection.permit ∧
    ((feed l s).1).lines.inputs = s.lines.inputs ∧ ((feed l s).1).lines.sample = s.lines.sample ∧
    ((feed l s).1).lines.coolant = s.lines.coolant ∧ ((feed l s).1).lines.timeBase = s.lines.timeBase ∧
    ((feed l s).1).lines.minute = s.lines.minute ∧ ((feed l s).1).stateUnit.settings = s.stateUnit.settings ∧
    ((feed l s).1).stateUnit.restart = s.stateUnit.restart ∧
    ((feed l s).1).stateUnit.lastRefusal = s.stateUnit.lastRefusal := by
  fun_induction feed <;> simp_all

@[simp] theorem receiveBytes_frame (p : RingPort) (l : List Byte) (s : State) :
    ((receiveBytes p l s).1).pending = s.pending ∧ ((receiveBytes p l s).1).connection.permit = s.connection.permit ∧
    ((receiveBytes p l s).1).lines.inputs = s.lines.inputs ∧ ((receiveBytes p l s).1).lines.sample = s.lines.sample ∧
    ((receiveBytes p l s).1).lines.coolant = s.lines.coolant ∧
    ((receiveBytes p l s).1).lines.timeBase = s.lines.timeBase ∧
    ((receiveBytes p l s).1).lines.minute = s.lines.minute ∧
    ((receiveBytes p l s).1).stateUnit.settings = s.stateUnit.settings ∧
    ((receiveBytes p l s).1).stateUnit.restart = s.stateUnit.restart ∧
    ((receiveBytes p l s).1).stateUnit.lastRefusal = s.stateUnit.lastRefusal := by
  simp only [receiveBytes]; (repeat' split) <;> simp

@[simp] theorem idleLine_frame (p : RingPort) (s : State) :
    (idleLine p s).records = s.records ∧ (idleLine p s).balance = s.balance ∧ (idleLine p s).envelope = s.envelope ∧
    (idleLine p s).monitor = s.monitor ∧ (idleLine p s).connection = s.connection ∧ (idleLine p s).zones = s.zones ∧
    (idleLine p s).cooling = s.cooling ∧ (idleLine p s).lines = s.lines ∧ (idleLine p s).stateUnit = s.stateUnit ∧
    (idleLine p s).portUnit = s.portUnit ∧ (idleLine p s).freeCount = s.freeCount ∧ (idleLine p s).pending = s.pending := by
  simp only [idleLine]; (repeat' split) <;> simp

@[simp] theorem answerTimedOut_frame (s : State) :
    (answerTimedOut s).pending = s.pending ∧ (answerTimedOut s).connection.permit = s.connection.permit ∧
    (answerTimedOut s).lines.inputs = s.lines.inputs ∧ (answerTimedOut s).lines.sample = s.lines.sample ∧
    (answerTimedOut s).lines.coolant = s.lines.coolant ∧ (answerTimedOut s).lines.timeBase = s.lines.timeBase ∧
    (answerTimedOut s).lines.minute = s.lines.minute ∧ (answerTimedOut s).stateUnit.settings = s.stateUnit.settings ∧
    (answerTimedOut s).stateUnit.restart = s.stateUnit.restart ∧
    (answerTimedOut s).stateUnit.lastRefusal = s.stateUnit.lastRefusal := by
  simp only [answerTimedOut]; (repeat' split) <;> simp

@[simp] theorem deliverChange_frame (i : Input) (b : Bool) (s : State) :
    (deliverChange i b s).records = s.records ∧ (deliverChange i b s).freeCount = s.freeCount ∧
    (deliverChange i b s).pending = s.pending ∧ (deliverChange i b s).connection.permit = s.connection.permit ∧
    (deliverChange i b s).zones.channels = s.zones.channels ∧ (deliverChange i b s).lines.inputs = s.lines.inputs ∧
    (deliverChange i b s).lines.sample = s.lines.sample ∧ (deliverChange i b s).lines.coolant = s.lines.coolant ∧
    (deliverChange i b s).lines.timeBase = s.lines.timeBase ∧ (deliverChange i b s).lines.minute = s.lines.minute ∧
    (deliverChange i b s).stateUnit.settings = s.stateUnit.settings ∧
    (deliverChange i b s).stateUnit.restart = s.stateUnit.restart ∧
    (deliverChange i b s).stateUnit.lastRefusal = s.stateUnit.lastRefusal := by
  simp only [deliverChange]; (repeat' split) <;> simp

@[simp] theorem deliverStart_frame (i : Input) (s : State) :
    (deliverStart i s).ring = s.ring ∧ (deliverStart i s).records = s.records ∧
    (deliverStart i s).balance = s.balance ∧ (deliverStart i s).zones = s.zones ∧
    (deliverStart i s).cooling = s.cooling ∧ (deliverStart i s).stateUnit = s.stateUnit ∧
    (deliverStart i s).freeCount = s.freeCount ∧ (deliverStart i s).pending = s.pending ∧
    (deliverStart i s).connection.permit = s.connection.permit ∧ (deliverStart i s).lines.inputs = s.lines.inputs ∧
    (deliverStart i s).lines.sample = s.lines.sample ∧ (deliverStart i s).lines.coolant = s.lines.coolant ∧
    (deliverStart i s).lines.timeBase = s.lines.timeBase ∧ (deliverStart i s).lines.minute = s.lines.minute ∧
    (deliverStart i s).lines.outputs.agent = s.lines.outputs.agent ∧
    (deliverStart i s).lines.outputs.rackFans = s.lines.outputs.rackFans ∧
    (deliverStart i s).lines.outputs.pump = s.lines.outputs.pump ∧
    (deliverStart i s).lines.outputs.exhaust = s.lines.outputs.exhaust ∧
    (deliverStart i s).lines.outputs.condenser = s.lines.outputs.condenser ∧
    (deliverStart i s).lines.outputs.chillerRun = s.lines.outputs.chillerRun ∧
    (deliverStart i s).lines.outputs.heater = s.lines.outputs.heater ∧
    (deliverStart i s).lines.outputs.dampersOpen = s.lines.outputs.dampersOpen := by
  simp only [deliverStart]; (repeat' split) <;> simp

@[simp] theorem debouncedChange_frame (i : Input) (s : State) :
    (debouncedChange i s).records = s.records ∧ (debouncedChange i s).freeCount = s.freeCount ∧
    (debouncedChange i s).pending = s.pending ∧ (debouncedChange i s).connection.permit = s.connection.permit ∧
    (debouncedChange i s).zones.channels = s.zones.channels ∧ (debouncedChange i s).lines.sample = s.lines.sample ∧
    (debouncedChange i s).lines.coolant = s.lines.coolant ∧ (debouncedChange i s).lines.timeBase = s.lines.timeBase ∧
    (debouncedChange i s).lines.minute = s.lines.minute ∧
    (debouncedChange i s).stateUnit.settings = s.stateUnit.settings ∧
    (debouncedChange i s).stateUnit.restart = s.stateUnit.restart ∧
    (debouncedChange i s).stateUnit.lastRefusal = s.stateUnit.lastRefusal := by
  simp only [debouncedChange]; (repeat' split) <;> simp

@[simp] theorem startInputLevel_frame (i : Input) (s : State) :
    (startInputLevel i s).records = s.records ∧ (startInputLevel i s).freeCount = s.freeCount ∧
    (startInputLevel i s).pending = s.pending ∧ (startInputLevel i s).connection.permit = s.connection.permit ∧
    (startInputLevel i s).zones.channels = s.zones.channels ∧ (startInputLevel i s).lines.sample = s.lines.sample ∧
    (startInputLevel i s).lines.coolant = s.lines.coolant ∧ (startInputLevel i s).lines.timeBase = s.lines.timeBase ∧
    (startInputLevel i s).lines.minute = s.lines.minute ∧
    (startInputLevel i s).stateUnit.settings = s.stateUnit.settings ∧
    (startInputLevel i s).stateUnit.restart = s.stateUnit.restart ∧
    (startInputLevel i s).stateUnit.lastRefusal = s.stateUnit.lastRefusal := by
  simp only [startInputLevel]; (repeat' split) <;> simp

@[simp] theorem debounceExpired_frame (i : Input) (s : State) :
    (debounceExpired i s).records = s.records ∧ (debounceExpired i s).freeCount = s.freeCount ∧
    (debounceExpired i s).pending = s.pending ∧ (debounceExpired i s).connection.permit = s.connection.permit ∧
    (debounceExpired i s).zones.channels = s.zones.channels ∧ (debounceExpired i s).lines.sample = s.lines.sample ∧
    (debounceExpired i s).lines.coolant = s.lines.coolant ∧ (debounceExpired i s).lines.timeBase = s.lines.timeBase ∧
    (debounceExpired i s).lines.minute = s.lines.minute ∧
    (debounceExpired i s).stateUnit.settings = s.stateUnit.settings ∧
    (debounceExpired i s).stateUnit.restart = s.stateUnit.restart ∧
    (debounceExpired i s).stateUnit.lastRefusal = s.stateUnit.lastRefusal := by
  simp only [debounceExpired]; (repeat' split) <;> simp

@[simp] theorem takeTrip_fold_frame (t : Trip) (l : List FlowDirection) (s : State) :
    (l.foldl (fun s _ => takeTrip t s) s).ring = s.ring ∧ (l.foldl (fun s _ => takeTrip t s) s).records = s.records ∧
    (l.foldl (fun s _ => takeTrip t s) s).balance = s.balance ∧
    (l.foldl (fun s _ => takeTrip t s) s).zones = s.zones ∧
    (l.foldl (fun s _ => takeTrip t s) s).cooling = s.cooling ∧
    (l.foldl (fun s _ => takeTrip t s) s).stateUnit = s.stateUnit ∧
    (l.foldl (fun s _ => takeTrip t s) s).freeCount = s.freeCount ∧
    (l.foldl (fun s _ => takeTrip t s) s).pending = s.pending ∧
    (l.foldl (fun s _ => takeTrip t s) s).connection.permit = s.connection.permit ∧
    (l.foldl (fun s _ => takeTrip t s) s).lines.inputs = s.lines.inputs ∧
    (l.foldl (fun s _ => takeTrip t s) s).lines.sample = s.lines.sample ∧
    (l.foldl (fun s _ => takeTrip t s) s).lines.coolant = s.lines.coolant ∧
    (l.foldl (fun s _ => takeTrip t s) s).lines.timeBase = s.lines.timeBase ∧
    (l.foldl (fun s _ => takeTrip t s) s).lines.minute = s.lines.minute ∧
    (l.foldl (fun s _ => takeTrip t s) s).lines.outputs.agent = s.lines.outputs.agent ∧
    (l.foldl (fun s _ => takeTrip t s) s).lines.outputs.rackFans = s.lines.outputs.rackFans ∧
    (l.foldl (fun s _ => takeTrip t s) s).lines.outputs.pump = s.lines.outputs.pump ∧
    (l.foldl (fun s _ => takeTrip t s) s).lines.outputs.exhaust = s.lines.outputs.exhaust ∧
    (l.foldl (fun s _ => takeTrip t s) s).lines.outputs.condenser = s.lines.outputs.condenser ∧
    (l.foldl (fun s _ => takeTrip t s) s).lines.outputs.chillerRun = s.lines.outputs.chillerRun ∧
    (l.foldl (fun s _ => takeTrip t s) s).lines.outputs.heater = s.lines.outputs.heater ∧
    (l.foldl (fun s _ => takeTrip t s) s).lines.outputs.dampersOpen = s.lines.outputs.dampersOpen := by
  induction l generalizing s with
  | nil => simp
  | cons a l ih => simp [ih]

@[simp] theorem policeCurrent_frame (s : State) :
    (policeCurrent s).ring = s.ring ∧ (policeCurrent s).records = s.records ∧ (policeCurrent s).balance = s.balance ∧
    (policeCurrent s).zones = s.zones ∧ (policeCurrent s).cooling = s.cooling ∧
    (policeCurrent s).stateUnit = s.stateUnit ∧ (policeCurrent s).freeCount = s.freeCount ∧
    (policeCurrent s).pending = s.pending ∧ (policeCurrent s).connection.permit = s.connection.permit ∧
    (policeCurrent s).lines.inputs = s.lines.inputs ∧ (policeCurrent s).lines.sample = s.lines.sample ∧
    (policeCurrent s).lines.coolant = s.lines.coolant ∧ (policeCurrent s).lines.timeBase = s.lines.timeBase ∧
    (policeCurrent s).lines.minute = s.lines.minute ∧ (policeCurrent s).lines.outputs.agent = s.lines.outputs.agent ∧
    (policeCurrent s).lines.outputs.rackFans = s.lines.outputs.rackFans ∧
    (policeCurrent s).lines.outputs.pump = s.lines.outputs.pump ∧
    (policeCurrent s).lines.outputs.exhaust = s.lines.outputs.exhaust ∧
    (policeCurrent s).lines.outputs.condenser = s.lines.outputs.condenser ∧
    (policeCurrent s).lines.outputs.chillerRun = s.lines.outputs.chillerRun ∧
    (policeCurrent s).lines.outputs.heater = s.lines.outputs.heater ∧
    (policeCurrent s).lines.outputs.dampersOpen = s.lines.outputs.dampersOpen := by
  simp only [policeCurrent]; (repeat' split) <;> simp

@[simp] theorem takeLineSample_frame (m : LineMeasurement) (s : State) :
    (takeLineSample m s).ring = s.ring ∧ (takeLineSample m s).records = s.records ∧
    (takeLineSample m s).balance = s.balance ∧ (takeLineSample m s).zones = s.zones ∧
    (takeLineSample m s).cooling = s.cooling ∧ (takeLineSample m s).stateUnit = s.stateUnit ∧
    (takeLineSample m s).freeCount = s.freeCount ∧ (takeLineSample m s).pending = s.pending ∧
    (takeLineSample m s).connection.permit = s.connection.permit ∧
    (takeLineSample m s).lines.inputs = s.lines.inputs ∧ (takeLineSample m s).lines.coolant = s.lines.coolant ∧
    (takeLineSample m s).lines.timeBase = s.lines.timeBase ∧ (takeLineSample m s).lines.minute = s.lines.minute ∧
    (takeLineSample m s).lines.outputs.agent = s.lines.outputs.agent ∧
    (takeLineSample m s).lines.outputs.rackFans = s.lines.outputs.rackFans ∧
    (takeLineSample m s).lines.outputs.pump = s.lines.outputs.pump ∧
    (takeLineSample m s).lines.outputs.exhaust = s.lines.outputs.exhaust ∧
    (takeLineSample m s).lines.outputs.condenser = s.lines.outputs.condenser ∧
    (takeLineSample m s).lines.outputs.chillerRun = s.lines.outputs.chillerRun ∧
    (takeLineSample m s).lines.outputs.heater = s.lines.outputs.heater ∧
    (takeLineSample m s).lines.outputs.dampersOpen = s.lines.outputs.dampersOpen := by
  simp [takeLineSample]

@[simp] theorem takeCoolantSample_frame (a b : Option Int) (s : State) :
    (takeCoolantSample a b s).records = s.records ∧ (takeCoolantSample a b s).monitor = s.monitor ∧
    (takeCoolantSample a b s).connection = s.connection ∧ (takeCoolantSample a b s).zones = s.zones ∧
    (takeCoolantSample a b s).freeCount = s.freeCount ∧ (takeCoolantSample a b s).pending = s.pending ∧
    (takeCoolantSample a b s).lines.inputs = s.lines.inputs ∧
    (takeCoolantSample a b s).lines.sample = s.lines.sample ∧
    (takeCoolantSample a b s).lines.timeBase = s.lines.timeBase ∧
    (takeCoolantSample a b s).lines.minute = s.lines.minute ∧
    (takeCoolantSample a b s).stateUnit.settings = s.stateUnit.settings ∧
    (takeCoolantSample a b s).stateUnit.restart = s.stateUnit.restart ∧
    (takeCoolantSample a b s).stateUnit.lastRefusal = s.stateUnit.lastRefusal ∧
    (takeCoolantSample a b s).lines.outputs.negMain = s.lines.outputs.negMain ∧
    (takeCoolantSample a b s).lines.outputs.posMain = s.lines.outputs.posMain ∧
    (takeCoolantSample a b s).lines.outputs.precharge = s.lines.outputs.precharge ∧
    (takeCoolantSample a b s).lines.outputs.gridPermissive = s.lines.outputs.gridPermissive ∧
    (takeCoolantSample a b s).lines.outputs.agent = s.lines.outputs.agent := by
  simp [takeCoolantSample]

/-- The pair of R98, spelled out. -/
theorem confirmPair_iff (s : State) :
    confirmPair s = true ↔
      s.connection.state = .precharging ∧ s.connection.confirm = some 0 ∧ (s.input .negAux).started = true ∧
        (s.input .negAux).debounce = some 0 ∧ (s.input .negAux).raw ≠ (s.input .negAux).live ∧
        s.live .negAux = false := by
  simp [confirmPair, InputRecord.changeArrived, and_assoc]

end Sys2Proof.Machine
end

