-- ==== Sys2Proof/Laws/Ops.lean ====
section
/-! SUPPORT. What each shared operation does, said once in the words the statements use: raising a cause, appending to
the journal, a computation of the envelope, and the serving of a request. -/

namespace Sys2Proof.Machine
open Sys2Proof.Safety

theorem get_of {α : Type} (g : Input → α) (i : Input) : (PerInput.of g).get i = g i := by cases i <;> rfl

/-! ## Raising (R193) -/

theorem raise_port (n : Notice) (s : State) (p : PortId) : (raise n s).port p = (s.port p).raise n := by
  cases p <;> rfl

theorem raise_notified (n : Notice) (s : State) : PortsNotified s (raise n s) := by intro p; cases p <;> rfl

theorem portsNotified_refl (s : State) : PortsNotified s s := fun _ => rfl

theorem portsNotified_trans {a b c : State} (h : PortsNotified a b) (k : PortsNotified b c) : PortsNotified a c :=
  fun p => by rw [k p, h p]

theorem inSet_raise (m n : Notice) (r : PortRecord) :
    m.inSet (r.raise n).pendingSet = (m.inSet r.pendingSet || decide (m = n)) := by
  cases m <;> cases n <;> simp [PortRecord.raise, Notice.inSet, Notice.bit, Notice.priority]

theorem raise_everywhere (n : Notice) (s : State) : PendingEverywhere n (raise n s) := by
  intro p
  rw [raise_port, inSet_raise]
  simp

/-! ## The journal (R197) -/

theorem append_notified (e : Entry) (s : State) : PortsNotified s (append e s) := by intro p; cases p <;> rfl

theorem append_appended (e : Entry) (s : State) : Appended [e] s (append e s) := by
  refine ⟨rfl, ?_⟩
  simp [append, raise, placeRecord, lastRecords, recordOf, recordFor, Config.journalDepth, State.now]
  rw [List.drop_append_of_le_length (by omega)]

theorem journalKept_refl (s : State) : JournalKept s s := ⟨rfl, rfl⟩

theorem journalKept_trans {a b c : State} (h : JournalKept a b) (k : JournalKept b c) : JournalKept a c :=
  ⟨k.1.trans h.1, k.2.trans h.2⟩

/-- What was appended between two states was appended between two others with the same journals and lines. -/
theorem appended_of_kept {es : List Entry} {s s' t t' : State} (h : Appended es s t) (hs : JournalKept s s')
    (ht : JournalKept t t') (hl : t'.lines = t.lines) : Appended es s' t' := by
  obtain ⟨a, b⟩ := h
  refine ⟨by rw [ht.2, a, hs.2], ?_⟩
  rw [ht.1, b, hs.1, hs.2]
  simp [recordFor, hl]

/-! ## A computation of the envelope (R63, R64) -/

theorem compute_notified (full : Bool) (s : State) : PortsNotified s (compute full s) := by
  intro p
  unfold compute
  dsimp only
  split
  · exact raise_notified _ _ p
  · rfl

theorem compute_full (full : Bool) (s : State) : (compute full s).envelope = nextEnvelope full s := by
  unfold compute
  dsimp only
  split <;> rfl

theorem compute_journal (full : Bool) (s : State) : JournalKept s (compute full s) := by
  unfold compute
  dsimp only
  split <;> exact ⟨rfl, rfl⟩

/-! ## Serving a request (R188, R189) -/

theorem port_setPort (p q : PortId) (r : PortRecord) (s : State) :
    (setPort p r s).port q = if q = p then r else s.port q := by
  cases p <;> cases q <;> rfl

/-- An answer delivered changes nothing else. -/
theorem deliver_answeredOnly (p : PortId) (q : Request) (r : Reply) (s : State) :
    AnsweredOnly p q.code r.status r.payload s (deliver p q r s) := by
  refine ⟨⟨?_, ?_⟩, ?_⟩
  · simp [deliver, port_setPort, PortRecord.answerWith, PortRecord.causeByte, PortRecord.showing]
  · simp [deliver, port_setPort, PortRecord.answerWith]
  · simp [OnlyAnswered, deliver, port_setPort, PortRecord.answerWith]

/-- A command that is a request always completes: with the Port Unit's own answer, or with its owner's, or by joining
the queue. -/
theorem serve_next (i : Instr) (owner : State → State × Reply) (s : State) (p : PortId) (q : Request)
    (h : requestOf i = some (p, q)) :
    serve i owner s =
      .next (if (s.port p).handsOver p i then
          match portCheckOf p q with
          | some st => deliver p q ⟨st, []⟩ s
          | none => deliver p q (owner s).2 (owner s).1
        else setPort p ((s.port p).enqueue p q) s) := by
  unfold serve
  rw [h]
  rfl

/-- `HandedOver`, as the statements say it, is the machine's own test. -/
theorem handsOver_iff (p : PortId) (i : Instr) (s : State) : (s.port p).handsOver p i = true ↔ HandedOver p i s := by
  unfold PortRecord.handsOver HandedOver
  cases (s.port p).answer <;> cases (s.port p).queue <;> simp

/-! ## Zones -/

theorem zone_setZone (z y : Zone) (r : ZoneRecord) (s : State) :
    (setZone z r s).zone y = if y = z then r else s.zone y := by
  cases z <;> cases y <;> rfl

end Sys2Proof.Machine
end

