-- ==== Sys2Proof/Laws/PerInstr.lean ====
section
/-! SUPPORT. Statements about every command as a term, one lemma per constructor. `FrameFits`: a well-formed request
fits the frame it travels in (R186: LEN is at most 64, so a request carries at most 63 payload bytes). -/

namespace Sys2Proof.Laws.FrameFits
open Sys2Proof.Machine

/-- A well-formed command that is a request has at most 63 payload bytes. -/
def Statement (i : Instr) : Prop :=
  i.wellFormed = true → ∀ p r, requestOf i = some (p, r) → r.payload.length ≤ 63

theorem powerOn (raw : PerInput Bool) (first : LineMeasurement) : Statement (.powerOn raw first) :=
  fun _ _ _ e => by cases e

theorem restart (p : PortId) : Statement (.restart p) :=
  fun _ _ _ e => by cases e; exact Nat.le_of_ble_eq_true rfl

theorem restartTaken (first : LineMeasurement) : Statement (.restartTaken first) :=
  fun _ _ _ e => by cases e

theorem periodBoundary : Statement .periodBoundary :=
  fun _ _ _ e => by cases e

theorem ringFrameReceived (at_ : RingPort) (bytes : List Byte) : Statement (.ringFrameReceived at_ bytes) :=
  fun _ _ _ e => by cases e

theorem ringFrameAbort (at_ : RingPort) (bytes : List Byte) : Statement (.ringFrameAbort at_ bytes) :=
  fun _ _ _ e => by cases e

theorem ringAnswerTimeout (at_ : RingPort) (bytes : List Byte) : Statement (.ringAnswerTimeout at_ bytes) :=
  fun _ _ _ e => by cases e

theorem clearCountdownExpiry (z : Zone) : Statement (.clearCountdownExpiry z) :=
  fun _ _ _ e => by cases e

theorem singleSourceExpiry (z : Zone) : Statement (.singleSourceExpiry z) :=
  fun _ _ _ e => by cases e

theorem releaseCountdownExpiry (z : Zone) : Statement (.releaseCountdownExpiry z) :=
  fun _ _ _ e => by cases e

theorem inputEdge (i : Input) (level : Bool) : Statement (.inputEdge i level) :=
  fun _ _ _ e => by cases e

theorem debounceExpiry (i : Input) : Statement (.debounceExpiry i) :=
  fun _ _ _ e => by cases e

theorem confirmCountdownExpiry : Statement .confirmCountdownExpiry :=
  fun _ _ _ e => by cases e

theorem prechargeTimeout : Statement .prechargeTimeout :=
  fun _ _ _ e => by cases e

theorem shedTimeout : Statement .shedTimeout :=
  fun _ _ _ e => by cases e

theorem gridHoldExpiry : Statement .gridHoldExpiry :=
  fun _ _ _ e => by cases e

theorem voteExpiry (p : PortId) : Statement (.voteExpiry p) :=
  fun _ _ _ e => by cases e

theorem flowCountdownExpiry : Statement .flowCountdownExpiry :=
  fun _ _ _ e => by cases e

theorem recoveryCountdownExpiry : Statement .recoveryCountdownExpiry :=
  fun _ _ _ e => by cases e

theorem overrideExpiry : Statement .overrideExpiry :=
  fun _ _ _ e => by cases e

theorem minuteTick : Statement .minuteTick :=
  fun _ _ _ e => by cases e

theorem lineSample (m : LineMeasurement) : Statement (.lineSample m) :=
  fun _ _ _ e => by cases e

theorem coolantSample (supply return_ : Option Int) : Statement (.coolantSample supply return_) :=
  fun _ _ _ e => by cases e

theorem portFrameReceived (p : PortId) (bytes : List Byte) : Statement (.portFrameReceived p bytes) :=
  fun _ _ _ e => by cases e

theorem portGapTimeout (p : PortId) (bytes : List Byte) : Statement (.portGapTimeout p bytes) :=
  fun _ _ _ e => by cases e

theorem answerSent (p : PortId) : Statement (.answerSent p) :=
  fun _ _ _ e => by cases e

theorem unknownRequest (p : PortId) (code : Byte) (payload : List Byte) : Statement (.unknownRequest p code payload) := by
  intro h p r e
  cases e
  exact of_decide_eq_true ((Bool.and_eq_true _ _).mp h).2

theorem readState (p : PortId) : Statement (.readState p) :=
  fun _ _ _ e => by cases e; exact Nat.le_of_ble_eq_true rfl

theorem readNodes (p : PortId) (first count : Byte) : Statement (.readNodes p first count) :=
  fun _ _ _ e => by cases e; exact Nat.le_of_ble_eq_true rfl

theorem readCells (p : PortId) (start : Word16) (count : Byte) : Statement (.readCells p start count) :=
  fun _ _ _ e => by cases e; exact Nat.le_of_ble_eq_true rfl

theorem readTemps (p : PortId) (start : Word16) (count : Byte) : Statement (.readTemps p start count) :=
  fun _ _ _ e => by cases e; exact Nat.le_of_ble_eq_true rfl

theorem readEnvelope (p : PortId) : Statement (.readEnvelope p) :=
  fun _ _ _ e => by cases e; exact Nat.le_of_ble_eq_true rfl

theorem readConnection (p : PortId) : Statement (.readConnection p) :=
  fun _ _ _ e => by cases e; exact Nat.le_of_ble_eq_true rfl

theorem readZones (p : PortId) : Statement (.readZones p) :=
  fun _ _ _ e => by cases e; exact Nat.le_of_ble_eq_true rfl

theorem readChannels (p : PortId) (first count : Byte) : Statement (.readChannels p first count) :=
  fun _ _ _ e => by cases e; exact Nat.le_of_ble_eq_true rfl

theorem readInputs (p : PortId) : Statement (.readInputs p) :=
  fun _ _ _ e => by cases e; exact Nat.le_of_ble_eq_true rfl

theorem readCooling (p : PortId) : Statement (.readCooling p) :=
  fun _ _ _ e => by cases e; exact Nat.le_of_ble_eq_true rfl

theorem readJournal (p : PortId) : Statement (.readJournal p) :=
  fun _ _ _ e => by cases e; exact Nat.le_of_ble_eq_true rfl

theorem noticeMask (p : PortId) (set : Word16) : Statement (.noticeMask p set) :=
  fun _ _ _ e => by cases e; exact Nat.le_of_ble_eq_true rfl

theorem ack (p : PortId) (set : Word16) : Statement (.ack p set) :=
  fun _ _ _ e => by cases e; exact Nat.le_of_ble_eq_true rfl

theorem setSetting (p : PortId) (group item index : Byte) (value : List Byte) : Statement (.setSetting p group item index value) := by
  intro h p r e
  cases e
  exact of_decide_eq_true h

theorem enterRun (p : PortId) : Statement (.enterRun p) :=
  fun _ _ _ e => by cases e; exact Nat.le_of_ble_eq_true rfl

theorem enterSetup (p : PortId) : Statement (.enterSetup p) :=
  fun _ _ _ e => by cases e; exact Nat.le_of_ble_eq_true rfl

theorem enumerate (p : PortId) : Statement (.enumerate p) :=
  fun _ _ _ e => by cases e; exact Nat.le_of_ble_eq_true rfl

theorem sleep (p : PortId) : Statement (.sleep p) :=
  fun _ _ _ e => by cases e; exact Nat.le_of_ble_eq_true rfl

theorem wake (p : PortId) : Statement (.wake p) :=
  fun _ _ _ e => by cases e; exact Nat.le_of_ble_eq_true rfl

theorem mask (p : PortId) (target : Byte) (first : Word16) (count action : Byte) : Statement (.mask p target first count action) :=
  fun _ _ _ e => by cases e; exact Nat.le_of_ble_eq_true rfl

theorem unmask (p : PortId) (target : Byte) (first : Word16) (count : Byte) : Statement (.unmask p target first count) :=
  fun _ _ _ e => by cases e; exact Nat.le_of_ble_eq_true rfl

theorem setWatchFixed (p : PortId) (window mode address : Byte) : Statement (.setWatchFixed p window mode address) :=
  fun _ _ _ e => by cases e; exact Nat.le_of_ble_eq_true rfl

theorem setWatchAuto (p : PortId) (window : Byte) : Statement (.setWatchAuto p window) :=
  fun _ _ _ e => by cases e; exact Nat.le_of_ble_eq_true rfl

theorem balance (p : PortId) (pairs : List (Word16 × Word16)) : Statement (.balance p pairs) := by
  intro h p r e
  cases e
  have h := of_decide_eq_true h
  unfold payloadTop at h
  have k (l : List (Word16 × Word16)) : (l.flatMap fun (c, m) => bytes16 c ++ bytes16 m).length = 4 * l.length := by
    induction l with
    | nil => rfl
    | cons q l ih => simp only [List.flatMap_cons, List.length_append, List.length_cons, ih]; simp [bytes16]; omega
  simp only [List.length_cons, k]
  omega

theorem coolingOverrideSet (p : PortId) (action : Byte) (fields : OverrideFields) : Statement (.coolingOverrideSet p action fields) :=
  fun _ _ _ e => by cases e; exact Nat.le_of_ble_eq_true rfl

theorem coolingOverrideCancel (p : PortId) : Statement (.coolingOverrideCancel p) :=
  fun _ _ _ e => by cases e; exact Nat.le_of_ble_eq_true rfl

theorem energyPermitGrant (p : PortId) (action : Byte) : Statement (.energyPermitGrant p action) :=
  fun _ _ _ e => by cases e; exact Nat.le_of_ble_eq_true rfl

theorem energyPermitWithdraw (p : PortId) : Statement (.energyPermitWithdraw p) :=
  fun _ _ _ e => by cases e; exact Nat.le_of_ble_eq_true rfl

theorem gridPermitGrant (p : PortId) (action : Byte) (hold : Word16) : Statement (.gridPermitGrant p action hold) :=
  fun _ _ _ e => by cases e; exact Nat.le_of_ble_eq_true rfl

theorem gridPermitWithdraw (p : PortId) (hold : Word16) : Statement (.gridPermitWithdraw p hold) :=
  fun _ _ _ e => by cases e; exact Nat.le_of_ble_eq_true rfl

theorem clearLockout (p : PortId) : Statement (.clearLockout p) :=
  fun _ _ _ e => by cases e; exact Nat.le_of_ble_eq_true rfl

theorem close (p : PortId) (marker : Byte) : Statement (.close p marker) :=
  fun _ _ _ e => by cases e; exact Nat.le_of_ble_eq_true rfl

theorem openRequest (p : PortId) (marker : Byte) : Statement (.openRequest p marker) :=
  fun _ _ _ e => by cases e; exact Nat.le_of_ble_eq_true rfl

theorem remoteTrip (p : PortId) (marker : Byte) : Statement (.remoteTrip p marker) :=
  fun _ _ _ e => by cases e; exact Nat.le_of_ble_eq_true rfl

theorem hold (p : PortId) (zone : Byte) : Statement (.hold p zone) :=
  fun _ _ _ e => by cases e; exact Nat.le_of_ble_eq_true rfl

theorem holdRelease (p : PortId) (zone : Byte) : Statement (.holdRelease p zone) :=
  fun _ _ _ e => by cases e; exact Nat.le_of_ble_eq_true rfl

theorem abort (p : PortId) (zone : Byte) : Statement (.abort p zone) :=
  fun _ _ _ e => by cases e; exact Nat.le_of_ble_eq_true rfl

theorem resetZone (p : PortId) (zone : Byte) : Statement (.resetZone p zone) :=
  fun _ _ _ e => by cases e; exact Nat.le_of_ble_eq_true rfl

theorem ringRequestSent : Statement .ringRequestSent :=
  fun _ _ _ e => by cases e

end Sys2Proof.Laws.FrameFits
end

