-- ==== Sys2Proof/Laws/Ring.lean ====
section
/-! SUPPORT. What the ring takes from the blocks that can wake the part: inside a ring cycle a wake is a period boundary,
which moves the period countdown, the overrun count and the pending start, and nothing else of the ring (R16, R181). -/

namespace Sys2Proof.Machine
open Sys2Proof.Safety

/-- From `s` to `t` the ring differs in the period countdown, the overrun count and the pending start alone. -/
def BoundaryOnly (s t : State) : Prop :=
  t.ring =
    { s.ring with
      countdown := t.ring.countdown, overruns := t.ring.overruns, startPending := t.ring.startPending }

/-- A ring cycle is in flight, with an attempt on the ring. -/
def InFlight (s : State) : Prop := s.ring.cycle ≠ none ∧ s.ring.attempt ≠ none

theorem boundaryOnly_of_ring {s t : State} (h : t.ring = s.ring) : BoundaryOnly s t := by
  unfold BoundaryOnly
  rw [h]

theorem boundaryOnly_trans {a b c : State} (h : BoundaryOnly a b) (k : BoundaryOnly b c) : BoundaryOnly a c := by
  unfold BoundaryOnly at *
  rw [k, h]

theorem inFlight_of_boundaryOnly {s t : State} (h : BoundaryOnly s t) (f : InFlight s) : InFlight t := by
  unfold BoundaryOnly at h
  unfold InFlight
  rw [h]
  exact f

/-- A wake cause inside a cycle is a boundary (R16, R181). -/
theorem wakeCause_boundaryOnly (s : State) (f : InFlight s) : BoundaryOnly s (wakeCause s) := by
  obtain ⟨c, a⟩ := f
  have attempt : s.ring.attempt.isSome = true := Option.isSome_iff_ne_none.2 a
  obtain ⟨cycle, hc⟩ := Option.ne_none_iff_exists'.1 c
  unfold wakeCause BoundaryOnly
  split
  · rfl
  · rfl
  · split
    · rfl
    · simp only [ringWake, ringBoundary, hc, attempt, if_true]
      split <;> rfl

theorem setHealth_boundaryOnly (h : Health) (s : State) (f : InFlight s) : BoundaryOnly s (setHealth h s) := by
  have told : BoundaryOnly s (raise .cooling (capInputChanged { s with cooling.health := h })) :=
    boundaryOnly_of_ring (by simp)
  unfold setHealth
  dsimp only
  split
  · exact boundaryOnly_trans told (wakeCause_boundaryOnly _ (inFlight_of_boundaryOnly told f))
  · exact told

theorem updateConditions_boundaryOnly (g : Cooling → Cooling) (s : State) (f : InFlight s) :
    BoundaryOnly s (updateConditions g s) := by
  unfold updateConditions followConditions
  split
  · exact setHealth_boundaryOnly _ { s with cooling := g s.cooling } f
  · exact boundaryOnly_of_ring rfl
  · exact boundaryOnly_of_ring rfl
  · split <;> exact boundaryOnly_of_ring rfl

theorem flowCheck_boundaryOnly (s : State) (f : InFlight s) : BoundaryOnly s (flowCheck s) := by
  unfold flowCheck
  split
  · exact updateConditions_boundaryOnly _ s f
  · split <;> exact boundaryOnly_of_ring rfl

theorem chillerCheck_boundaryOnly (s : State) (f : InFlight s) : BoundaryOnly s (chillerCheck s) :=
  updateConditions_boundaryOnly _ s f

theorem driveCooling_boundaryOnly (d : Drive) (s : State) (f : InFlight s) : BoundaryOnly s (driveCooling d s) := by
  unfold driveCooling
  extract_lets o lines driven flow
  have first : BoundaryOnly s flow := by
    unfold flow
    split
    · exact boundaryOnly_of_ring rfl
    · exact flowCheck_boundaryOnly driven f
  clear_value flow
  split
  · exact first
  · exact boundaryOnly_trans first (chillerCheck_boundaryOnly _ (inFlight_of_boundaryOnly first f))

/-- An evaluation of the cooling, whose new lines can set a condition and so wake (R152, R156 to R159). -/
theorem evaluateCooling_boundaryOnly (s : State) (f : InFlight s) : BoundaryOnly s (evaluateCooling s) := by
  unfold evaluateCooling
  exact driveCooling_boundaryOnly _ (takeMode _ _ s) f

/-- A zone change, with all that it does elsewhere (R138, R139). -/
theorem changeZone_boundaryOnly (z : Zone) (r : ZoneRecord) (o : Option Origin) (l : Option Location) (s : State)
    (f : InFlight s) : BoundaryOnly s (changeZone z r o l s) := by
  unfold changeZone
  extract_lets old placed noted recorded cooled tripped
  have record : BoundaryOnly s recorded := by
    refine boundaryOnly_of_ring ?_
    unfold recorded
    split <;> rfl
  have told : BoundaryOnly s (capInputChanged (raise .fire recorded)) :=
    boundaryOnly_trans record (boundaryOnly_of_ring (by simp))
  have cool : BoundaryOnly s cooled :=
    boundaryOnly_trans
      (boundaryOnly_trans told (evaluateCooling_boundaryOnly _ (inFlight_of_boundaryOnly told f)))
      (boundaryOnly_of_ring rfl)
  have trip : BoundaryOnly s tripped := by
    refine boundaryOnly_trans cool (boundaryOnly_of_ring ?_)
    unfold tripped
    split <;> simp
  split
  · exact boundaryOnly_trans trip (wakeCause_boundaryOnly _ (inFlight_of_boundaryOnly trip f))
  · exact trip

theorem enterCountdown_boundaryOnly (z : Zone) (o : Option Origin) (l : Option Location) (s : State)
    (f : InFlight s) : BoundaryOnly s (enterCountdown z o l s) := by
  unfold enterCountdown
  extract_lets delay record entered
  have enter : BoundaryOnly s entered := changeZone_boundaryOnly _ _ _ _ s f
  have on : InFlight entered := inFlight_of_boundaryOnly enter f
  split
  · exact boundaryOnly_trans enter (changeZone_boundaryOnly _ _ _ _ _ on)
  · split
    · exact boundaryOnly_trans enter (changeZone_boundaryOnly _ _ _ _ _ on)
    · exact enter

theorem confirmZone_boundaryOnly (z : Zone) (o : Option Origin) (l : Option Location) (s : State) (f : InFlight s) :
    BoundaryOnly s (confirmZone z o l s) := by
  unfold confirmZone
  split
  · exact enterCountdown_boundaryOnly _ _ _ s f
  · exact changeZone_boundaryOnly _ _ _ _ s f

theorem chooseLocation_boundaryOnly (l : List Location) (s : State) : BoundaryOnly s (chooseLocation l s).2 :=
  boundaryOnly_of_ring (by simp)

/-- The evaluation of a zone (R131, R137). -/
theorem evaluateZone_boundaryOnly (e : Evidence) (z : Zone) (s : State) (f : InFlight s) :
    BoundaryOnly s (evaluateZone e z s) := by
  have chosen (l : List Location) (s : State) (f : InFlight s) : InFlight (chooseLocation l s).2 :=
    inFlight_of_boundaryOnly (chooseLocation_boundaryOnly l s) f
  have confirm (l : List Location) :
      BoundaryOnly s (confirmZone z e.origin (chooseLocation l s).1 (chooseLocation l s).2) :=
    boundaryOnly_trans (chooseLocation_boundaryOnly l s) (confirmZone_boundaryOnly _ _ _ _ (chosen l s f))
  unfold evaluateZone
  split
  · split
    · exact confirm _
    · have single : BoundaryOnly s (followSingleSource z s) := boundaryOnly_of_ring rfl
      dsimp only
      split
      · exact boundaryOnly_trans (boundaryOnly_trans single (chooseLocation_boundaryOnly _ _))
          (changeZone_boundaryOnly _ _ _ _ _ (chosen _ _ (inFlight_of_boundaryOnly single f)))
      · exact single
  · split
    · exact confirm _
    · exact boundaryOnly_of_ring rfl
  · split
    · exact boundaryOnly_of_ring rfl
    · exact boundaryOnly_trans (chooseLocation_boundaryOnly _ s) (enterCountdown_boundaryOnly _ _ _ _ (chosen _ s f))
  · exact boundaryOnly_of_ring rfl

theorem evaluateZone_fold_boundaryOnly (e : State → Zone → Evidence) (l : List Zone) (s : State) (f : InFlight s) :
    BoundaryOnly s (l.foldl (fun s z => evaluateZone (e s z) z s) s) := by
  induction l generalizing s with
  | nil => exact boundaryOnly_of_ring rfl
  | cons z l ih =>
    have first := evaluateZone_boundaryOnly (e s z) z s f
    exact boundaryOnly_trans first (ih _ (inFlight_of_boundaryOnly first f))

/-- A report of a DETECT slot (R122, R123). -/
theorem afterReport_boundaryOnly (node : Nat) (old : List Channel) (s : State) (f : InFlight s) :
    BoundaryOnly s (afterReport node old s) := by
  have flags : BoundaryOnly s ((zonesOfNode s node).foldl workOutFlags s) := boundaryOnly_of_ring (by simp)
  exact boundaryOnly_trans flags (evaluateZone_fold_boundaryOnly _ _ _ (inFlight_of_boundaryOnly flags f))

/-- A good DETECT answer, delivered inside a cycle (R26, R122). -/
theorem detectDelivery_boundaryOnly (node : Nat) (readings : List DetectReading) (s : State) (f : InFlight s) :
    BoundaryOnly s (detectDelivery node readings s) :=
  afterReport_boundaryOnly node _ { s with zones.channels := _ } f

/-- A failed DETECT slot, reported inside a cycle (R26, R123). -/
theorem detectFailure_boundaryOnly (node failures : Nat) (s : State) (f : InFlight s) :
    BoundaryOnly s (detectFailure node failures s) :=
  afterReport_boundaryOnly node _ { s with zones.channels := _ } f

end Sys2Proof.Machine
end

