-- ==== Sys2Proof/Tests/Slice0.lean ====
section
/-! SUPPORT. Tests: the WellFormed smoke, worked cases of the spec, one step each, and for every statement with hypotheses
a named theorem whose states and operands meet them, clause by clause, at the ends of their ranges. -/

namespace Sys2Proof.Tests
open Sys2Proof Sys2Proof.Machine Sys2Proof.Safety

/-! ## WellFormed refuses what it should -/

theorem test_wf_setting_fits : (Instr.setSetting .site 1 1 0 (List.replicate 60 0)).wellFormed = true := by decide
theorem test_wf_setting_too_long : (Instr.setSetting .site 1 1 0 (List.replicate 61 0)).wellFormed = false := by decide
theorem test_wf_pairs_fit : (Instr.balance .site (List.replicate 15 (0, 0))).wellFormed = true := by decide
theorem test_wf_pairs_too_many : (Instr.balance .site (List.replicate 16 (0, 0))).wellFormed = false := by decide
theorem test_wf_unknown_known_code : (Instr.unknownRequest .site 0x01 []).wellFormed = false := by decide
theorem test_wf_unknown_too_long :
    (Instr.unknownRequest .site 0x60 (List.replicate 64 0)).wellFormed = false := by decide
theorem test_wf_unknown_fits : (Instr.unknownRequest .site 0x60 (List.replicate 63 0)).wellFormed = true := by decide
theorem test_wf_converter_has_no_vote : (Instr.voteExpiry .converter).wellFormed = false := by decide
theorem test_wf_first_rows :
    (Instr.mask .site 1 0 1 0x02).wellFormed = false ∧ (Instr.setWatchFixed .site 1 0x01 0).wellFormed = false
      ∧ (Instr.coolingOverrideSet .site 0x02 ⟨0, 0, 0, 0, 0, 0, 0, 0⟩).wellFormed = false
      ∧ (Instr.energyPermitGrant .site 0x02).wellFormed = false
      ∧ (Instr.gridPermitGrant .station 0x02 0).wellFormed = false := by decide

/-! ## No word spells a command, and what a request frame reads as -/

theorem test_no_table_word : decodeTableWord 8 0x40 = none := by decide
/-- R191: 0x50 with action 1 and 600 s. -/
theorem test_request_grid_permit :
    readRequest .station ⟨0x50, [0x01, 0x02, 0x58]⟩ = some (.gridPermitGrant .station 0x01 600) := by decide
/-- R191: target 1, first 0x0102, count 3, action 2. -/
theorem test_request_unmask :
    readRequest .site ⟨0x27, [0x01, 0x01, 0x02, 0x03, 0x02]⟩ = some (.unmask .site 1 258 3) := by decide
/-- R191: a count byte and 4 bytes a pair. -/
theorem test_request_balance :
    readRequest .site ⟨0x29, [0x01, 0x00, 0x11, 0x00, 0x1E]⟩ = some (.balance .site [(17, 30)]) := by decide
theorem test_request_balance_bad_length : portCheckOf .site ⟨0x29, [0x02, 0, 17, 0, 30]⟩ = some .badLength := by decide
theorem test_request_rights : portCheckOf .site ⟨0x40, [0x01]⟩ = some .notPermitted := by decide
theorem test_request_unknown : portCheckOf .site ⟨0x2C, []⟩ = some .unknownRequest := by decide
/-- The check value of the port check's polynomial, preset and order over the nine characters 1 to 9. -/
theorem test_port_check : portCheck [49, 50, 51, 52, 53, 54, 55, 56, 57] = 0x29B1 := by decide +kernel
/-- The check value of the ring check's polynomial, preset and order over the nine characters 1 to 9. -/
theorem test_ring_check : ringCheck [49, 50, 51, 52, 53, 54, 55, 56, 57] = 0xFEE8 := by decide +kernel

/-! ## Worked cases of the spec -/

/-- R33: 33,000 and a sample of 33,100 give 33,013. -/
theorem test_filter : nextFiltered 3 (some 33100) (some 33000) = some 33013 := by decide
/-- Worked cases of demand (R149). -/
theorem test_demand :
    demandOf Settings.default.cooling (some 240) = 3 ∧ demandOf Settings.default.cooling (some 262) = 6
      ∧ demandOf Settings.default.cooling (some 289) = 14 ∧ demandOf Settings.default.cooling (some 334) = 15
      ∧ demandOf Settings.default.cooling none = 10 := by decide
/-- R74: 50.0 A/s at 200 ms is 100 counts. -/
theorem test_ramp_step : rampStep Settings.default = 100 := by decide
/-- R171: a string voltage above the range is taken at its top, and a current saturates with its flag. -/
theorem test_sample_saturates : takeSample ⟨-20001, 15001, -1⟩ = ⟨-20000, 15000, 0, true⟩ := by decide
/-- R177: SET_WATCH and ENTER_RUN codes keep R178's order. -/
theorem test_check_codes : RunCheck.ringNotReady.code = 0x21 ∧ RunCheck.thermalBands.code = 0x2C := by decide

/-! ## Small states -/

/-- The part with a ring between cycles, in an operating state and a connection state. -/
def part (u : OpState) (c : ConnState) : State :=
  { State.reset with
    stateUnit.state := u, connection.state := c, ring.state := .closed, ring.attempt := none
    records.cells := [], records.sensors := [], records.image.cells := [], records.image.sensors := []
    balance := [] }

/-- An input reads a live level. -/
def reads (i : Input) (level : Bool) (s : State) : State :=
  setInput i { s.input i with live := level, raw := level, started := true, debounce := none } s

/-- Both auxiliary contacts read open. -/
def apart (s : State) : State := reads .negAux false (reads .posAux false s)

/-- Zone 4 in a state. -/
def zoned (z : ZoneState) (s : State) : State := setZone .z4 { s.zone .z4 with state := z } s

/-- A zone whose release countdown has run out. -/
def counting (z : Zone) : State :=
  setZone z { startZone with state := .countdown, countdown := some 0 } (part .run .opened)

/-- A string ready to be closed: every close gate passes. -/
def ready : State :=
  let s := reads .feederClosed true (reads .estop false (reads .door false (apart (part .run .opened))))
  { s with connection.permit := ⟨.granted, .valid, some 1000, some 1⟩, envelope.charge.target := 1 }

/-- A healthy cell, fresh and unmasked. -/
def goodCell : Cell :=
  { emptyCell with populated := true, condition := .fresh, filtered := some 33001, primary := some 33001 }

/-- A lost cell. -/
def lostCell : Cell := { goodCell with condition := .lost }

/-- A CSN at an address, and a DTN. -/
def csnAt (a : Nat) : DirEntry := ⟨a, .csn 2 1, some .z1, .out, 0, 0, 0, none, none⟩
def dtnAt (a : Nat) : DirEntry := ⟨a, .dtn 2, none, .out, 0, 0, 0, none, none⟩

/-- An attempt for a job, its request sent. -/
def tried (j : Job) : Attempt := ⟨j, tokenFrame, .out, .ret, false, none, none, some 2⟩

/-- A CLOSED ring of CSN 0 and DTN 1 at the last attempt of a job, with the rotation pointer at 0 and these slots still to
come. -/
def inSlot (j : Job) (slots : List Slot) : State :=
  { part .run .opened with
    ring.directory := [csnAt 0, dtnAt 1], ring.rotation := some 0, ring.attempt := some (tried j)
    ring.cycle := some ⟨slots, [], false⟩ }

/-- The same with CSN 0 watched, so that no rotation slot finds a node. -/
def watched (j : Job) (slots : List Slot) : State :=
  let s := inSlot j slots
  { s with ring.windowA := ⟨.fixed, some 0, some 0⟩ }

/-- A trip's opening record. -/
def openingOf (c : OpeningClass) (cause : OpeningCause) : Opening := ⟨c, cause, none, none, none, false⟩

/-! ## One step each, with what the spec's tables give -/

/-- The state after a command. -/
def after (c : Instr) (s : State) : State :=
  match exec c s with
  | .next t => t
  | _ => s

/-- What a port is answering: the status and the payload. -/
def answered (p : PortId) (s : State) : Option (Status × List Byte) := (s.port p).answer.map fun a => (a.status, a.payload)

/-- R96: the first gate after reset is NOT_RUN, reason 0x01. -/
theorem test_close_refused_at_reset :
    answered .converter (after (.close .converter 9) State.reset) = some (.refused, [0x01]) := by decide
/-- R97: a CLOSE that passes starts the precharge with both its lines. -/
theorem test_close_starts_precharge :
    (after (.close .converter 9) ready).connection.state = .precharging
      ∧ (after (.close .converter 9) ready).lines.outputs.precharge = true := by decide +kernel
/-- R178: check 1 after reset is RING_NOT_READY. -/
theorem test_enter_run_refused_at_reset :
    answered .site (after (.enterRun .site) State.reset) = some (.refused, [0x21]) := by decide
/-- R180: SLEEP in RUN with the connection OPEN. -/
theorem test_sleep_pending : (after (.sleep .site) (part .run .opened)).stateUnit.sleepPending = true := by decide
/-- R91: a hold of 0 is taken as 300 s. -/
theorem test_grid_permit_default_hold :
    answered .station (after (.gridPermitGrant .station 1 0) (part .run .opened)) = some (.ok, [0x02, 0x01, 0x2C, 0x01])
    := by decide
/-- R106, R107: an emergency stop in OPEN locks out. -/
theorem test_estop_locks_out :
    let r := { State.reset.input .estop with debounce := some 0, started := true, live := false, raw := true }
    (after (.debounceExpiry .estop) (setInput .estop r (part .run .opened))).connection.state = .lockout := by decide +kernel
/-- R136: a release asserts its own agent line alone. -/
theorem test_release_asserts_line :
    (after (.releaseCountdownExpiry .z4) (counting .z4)).lines.outputs.agent = ⟨false, false, false, true⟩ := by
  decide +kernel
/-- R141: HOLD in RELEASED is TOO_LATE. -/
theorem test_hold_too_late :
    (answered .station (after (.hold .station 4) (zoned .released (part .run .opened)))).map (·.1) = some .tooLate := by
  decide
/-- R151, R152: a released zone seals the container with the pump at 15. -/
theorem test_release_seals :
    (after (.releaseCountdownExpiry .z1) (counting .z1)).lines.outputs.pump = 15 := by decide +kernel
/-- Log 2: a countdown with a millisecond left does not expire. -/
theorem test_release_waits :
    let s := setZone .z4 { startZone with state := .countdown, countdown := some 1 } (part .run .opened)
    after (.releaseCountdownExpiry .z4) s = s := rfl
/-- R154: levels above 15 and a duration above 60 are clamped. -/
theorem test_override_clamped :
    (after (.coolingOverrideSet .site 1 ⟨16, 15, 255, 0, 0, 1, 0, 61⟩) (part .run .opened)).cooling.override
      = some ⟨15, 15, 15, 0, false, true, false, 60, 3600000⟩ := by decide
/-- R188: a code that is no request code. -/
theorem test_unknown_request :
    answered .station (after (.unknownRequest .station 0x77 [1]) State.reset) = some (.unknownRequest, []) := by decide
/-- R189: a third request is discarded and sets the lost flag. -/
theorem test_third_request_lost :
    let r := { State.reset.port .site with queue := [⟨0x01, []⟩, ⟨0x01, []⟩] }
    (r.enqueue .site ⟨0x05, []⟩).lost = true ∧ (r.enqueue .site ⟨0x05, []⟩).queue.length = 2 := by decide
/-- R194: the line is asserted while a pending cause is enabled, and CAUSE is the highest priority. -/
theorem test_cause_byte :
    ((raise .journal (raise .permit State.reset)).port .site).causeByte = 4
      ∧ ((raise .journal (raise .permit State.reset)).port .site).attention = true := by decide
/-- R47: 12 cells may be read at once, 13 may not. -/
theorem test_read_cells_count :
    (answered .site (after (.readCells .site 0 13) State.reset)) = some (.outOfRange, []) := by decide
/-- R56: the last minute of an ACTIVE entry makes it IDLE. -/
theorem test_minute_tick : [⟨.active, 1⟩, ⟨.active, 2⟩, ⟨.suspended, 1⟩].map tickEntry
    = [⟨.idle, 0⟩, ⟨.active, 1⟩, ⟨.suspended, 1⟩] := by decide

/-- R189: a request that comes while another one heads the queue waits behind it; a third is lost. -/
theorem test_request_waits :
    let s := setPort .site { (part .run .opened).port .site with queue := [⟨0x25, []⟩] } (part .run .opened)
    let t := after (.sleep .site) s
    (t.port .site).queue = [⟨0x25, []⟩, ⟨0x24, []⟩] ∧ t.stateUnit.sleepPending = false
      ∧ after (.sleep .site) t = setPort .site { t.port .site with lost := true } t := ⟨by decide, by decide, rfl⟩
/-- R155: a SET just taken is not removed by the expiry of the record it replaced. -/
theorem test_override_replaced_does_not_expire :
    let s := after (.coolingOverrideSet .site 1 ⟨1, 1, 1, 1, 0, 0, 0, 1⟩) (part .run .opened)
    after .overrideExpiry s = s := rfl
/-- R190: a count of 0 returns the ring summary alone. -/
theorem test_read_nodes_none :
    answered .site (after (.readNodes .site 0 0) (part .run .opened))
      = some (.ok, [2, 0, 0, 0, 0, 0, 0, 1, 0, 0, 0, 0, 1, 0, 0, 0, 0, 0, 0]) := by decide

/-! ## The hypotheses of the statements can be met

The request commands are handed over in every witness: `HandedOver` asks a port that sends no answer, with an empty
queue or with the request at its head. -/

/-- A port of a witness state is idle. -/
theorem test_witness_handed_over (u : OpState) (c : ConnState) (p : PortId) (i : Instr) :
    HandedOver p i (part u c) := by
  refine ⟨?_, ?_⟩ <;> cases p <;> first | rfl | (intro _ _ h; cases h)

/-- A request at the head is handed over, another one is not. -/
theorem test_witness_handed_over_head :
    let s := setPort .site { (part .run .opened).port .site with queue := [⟨0x24, []⟩] } (part .run .opened)
    HandedOver .site (.sleep .site) s ∧ ¬ HandedOver .site (.wake .site) s := by
  refine ⟨(handsOver_iff _ _ _).1 (by decide), fun h => ?_⟩
  exact absurd ((handsOver_iff _ _ _).2 h) (by decide)

theorem test_witness_StepRunsFrontCommand :
    ({ State.reset with pending := [.minuteTick, .periodBoundary] } : State).pending
      = .minuteTick :: [.periodBoundary] := rfl

theorem test_witness_EmptyQueueStep :
    (part .run .opened).pending = [] ∧ dueCommand (part .run .opened) = none
      ∧ dueCommand { part .run .opened with lines.minute := 0 } = some .minuteTick := by decide

/-- Of several due the first group is taken: a waiting request, then a zone, then an input, then the connection. -/
theorem test_witness_EmptyQueueStep_order :
    let late := { part .run .closed with connection.confirm := some 0, lines.minute := 0 }
    let edge := setInput .door { late.input .door with debounce := some 0 } late
    let zone := setZone .z4 { startZone with singleSource := some 0 } edge
    let asked := setPort .site { zone.port .site with queue := [⟨0x25, []⟩] } zone
    dueCommand late = some .confirmCountdownExpiry ∧ dueCommand edge = some (.debounceExpiry .door)
      ∧ dueCommand zone = some (.singleSourceExpiry .z4) ∧ dueCommand asked = some (.wake .site) := by decide

/-- R183: while the OK of a RESTART is still being sent, nothing restarts. -/
theorem test_restart_waits_for_its_answer :
    (after (.restartTaken ⟨0, 0, 0⟩) { part .run .opened with stateUnit.restart := .answered }).stateUnit.state
      = .run := by
  decide

/-- R183: a second RESTART answered OK leaves the first one due. -/
theorem test_second_restart_leaves_first_due :
    (after (.restart .site) { part .run .opened with stateUnit.restart := .due }).stateUnit.restart = .due := by decide

theorem test_witness_PortUnitAtStart :
    ({ State.reset with stateUnit.restart := .due } : State).stateUnit.restart = .due := by decide

theorem test_witness_StartValues :
    State.reset.stateUnit.restart ≠ .due
      ∧ ({ part .setup .opened with stateUnit.restart := .answered } : State).stateUnit.restart ≠ .due
      ∧ ({ part .setup .opened with stateUnit.restart := .due } : State).stateUnit.restart = .due
      ∧ (part .setup .opened).connection.state ≠ .lockout
      ∧ (part .setup .lockout).connection.state = .lockout := by decide

theorem test_witness_PeriodBoundaryStarts :
    (State.reset.ring.state = .enumerating ∧ State.reset.ring.attempt ≠ none)
      ∧ ({ State.reset with ring.attempt := none } : State).ring.attempt = none
      ∧ ((part .run .opened).ring.state ≠ .enumerating ∧ (part .run .opened).ring.cycle = none)
      ∧ ({ part .run .opened with ring.cycle := some ⟨[], [], false⟩ } : State).ring.cycle ≠ none
      ∧ ((part .dormant .opened).stateUnit.state = .dormant
        ∧ ({ part .dormant .opened with stateUnit.wakePending := true } : State).stateUnit.wakePending = true) := by
  decide

theorem test_witness_RingReceiverRules :
    (part .run .opened).ring.attempt = none
      ∧ State.reset.ring.attempt = some enumerationAttempt ∧ enumerationAttempt.timeout = none
      ∧ (tried .token).timeout ≠ none ∧ (tried .token).listensAt ≠ .out ∧ (tried .token).listensAt = .ret
      ∧ (tried .token).rx = none ∧ (0x7E : Byte) ∉ ([0x00, 0x7F] : List Byte)
      ∧ ([0x03, 0x00] : List Byte).length ≤ 2 := by decide

/-- A DTN's answer of 2 channels, at the ends of what each clause of the judgement asks. -/
theorem test_witness_RingFrameReassembled :
    let s := { part .run .opened with ring.directory := [dtnAt 5], ring.attempt := some (tried (.detect 5)) }
    (0x7E : Byte) ∉ ([0x00] : List Byte) ∧ (tried (.detect 5)).rx = none ∧ (tried (.detect 5)).listensAt = .ret
      ∧ judge s (.detect 5) ⟨0x84, 5, [1, 0, 0, 1, 0, 0]⟩ true = .accepted
      ∧ judge s (.detect 5) ⟨0x84, 5, [1, 0, 0]⟩ true = .failed .shape
      ∧ judge s (.detect 5) ⟨0x84, 6, []⟩ true = .dropped
      ∧ 200 < (201 : Byte).toNat ∧ ([0x00, 0x00] : List Byte).length = 2
      ∧ (tried (.detect 5)).listensAt ≠ .out ∧ (part .run .opened).ring.attempt = none := by decide

theorem test_witness_RingFrameReassembled_longest :
    (RingFrame.mk 0x83 0x00 (List.replicate 200 0)).payload.length ≤ 200 :=
  Nat.le_of_eq List.length_replicate

theorem test_witness_RingReceiverRules_judged :
    let s := { part .run .opened with ring.directory := [csnAt 0, dtnAt 5] }
    s.nodeKind 0 = some (.csn 2 1) ∧ s.nodeKind 5 = some (.dtn 2) := by decide

/-- R17, R23: a SCAN and a DETECT slot, a rotation slot with the node it takes, and one behind a rotation slot that finds
none, as the next slot; and lists in which no slot takes time. -/
theorem test_witness_NextSlotBegins (j : Job) :
    NextSlotBegins (inSlot j []) [.scan 0, .rotation] [.rotation] [] [] (some 0) (.scan 0)
      ∧ NextSlotBegins (inSlot j []) [.detect 1, .rotation] [.rotation] [] [] (some 0) (.detect 1)
      ∧ NextSlotBegins (inSlot j []) [.rotation, .rotation] [.rotation] [] [0] (some 0) (.scan 0)
      ∧ NextSlotBegins (watched j []) [.rotation, .detect 1] [] [] [] (some 0) (.detect 1)
      ∧ CycleOver (watched j []) [.rotation, .rotation] [] ∧ CycleOver (inSlot j []) [] [] :=
  ⟨⟨0, _, rfl, nofun, rfl, rfl, rfl⟩, ⟨0, _, rfl, nofun, rfl, rfl, rfl⟩, ⟨0, _, rfl, nofun, 0, rfl, rfl, rfl, rfl⟩,
    ⟨1, _, rfl, fun _ => rfl, rfl, rfl, rfl⟩, ⟨2, rfl, fun _ => rfl⟩, ⟨0, rfl, nofun⟩⟩

/-- The token in a CLOSED and in a SEVERED ring, before a DETECT and before a rotation slot, in RUN and in DORMANT. -/
theorem test_witness_TokenSlotOutcome :
    let a := tried .token
    let s := inSlot .token [.detect 1, .rotation]
    let d := { inSlot .token [.rotation] with stateUnit.state := .dormant, ring.state := .severed }
    s.ring.attempt = some a ∧ a.job = .token ∧ a.rx = none ∧ a.listensAt = .ret
      ∧ s.ring.cycle = some ⟨[.detect 1, .rotation], [], false⟩ ∧ d.ring.cycle = some ⟨[.rotation], [], false⟩
      ∧ s.ring.state = .closed ∧ d.ring.state ≠ .closed ∧ d.ring.attempt = some a
      ∧ a.timeout ≠ none ∧ (a.retryLeft && s.settings.ring.retry) = false ∧ a.fallback = none
      ∧ (after (.ringAnswerTimeout .ret []) s).ring.attempt.map (·.job) = some (.detect 1)
      ∧ (after (.ringAnswerTimeout .ret []) s).ring.state = .split
      ∧ (after (.ringFrameReceived .ret (RingFrame.mk 0x01 0xFF []).bytes) d).ring.attempt.map (·.job)
        = some (.scan 0)
      ∧ (after (.ringFrameReceived .ret (RingFrame.mk 0x01 0xFF []).bytes) d).ring.state = .closed := by
  decide +kernel

theorem test_witness_TimeoutRepeatsOrFallsBack :
    let a := tried (.scan 0)
    let s := { part .run .opened with ring.directory := [csnAt 0], ring.attempt := some a }
    s.ring.attempt = some a ∧ ({ a with timeout := none } : Attempt).timeout = none ∧ a.timeout ≠ none
      ∧ ({ a with retryLeft := true } : Attempt).retryLeft = true ∧ s.settings.ring.retry = true
      ∧ (a.retryLeft && s.settings.ring.retry) = false
      ∧ ({ a with fallback := some .out } : Attempt).fallback = some .out
      ∧ (tried .enumerate).job = .enumerate ∧ s.ring.startPending = false
      ∧ (part .run .opened).ring.attempt = none := by decide

/-- A last DETECT attempt in DORMANT, inside its cycle, whose failure wakes a NORMAL zone; an attempt outside a cycle would
not be such a state. Bytes of an unfinished frame and bytes of a whole frame, before the timeout. -/
theorem test_witness_TimeoutRepeatsOrFallsBack_dormant :
    let s := { inSlot (.detect 1) [.rotation] with
      stateUnit.state := .dormant
      zones := ⟨[], ⟨{ startZone with thermal := true }, startZone, startZone, startZone⟩⟩ }
    let waiting := inSlot (.scan 0) [.rotation]
    NodeAttemptInCycle s ∧ ¬ NodeAttemptInCycle { s with ring.cycle := none }
      ∧ s.ring.attempt = some (tried (.detect 1)) ∧ s.dirEntry 1 = some (dtnAt 1)
      ∧ (receiveBytes .ret [0x00, 0x7E, 0x83, 0x00] waiting).2 = false
      ∧ (receiveBytes .ret (RingFrame.mk 0x03 0 []).bytes waiting).2 = true
      ∧ (after (.ringAnswerTimeout .ret [0x00, 0x7E, 0x83, 0x00]) waiting).ring.attempt.map (·.job) = some (.scan 0) := by
  refine ⟨fun _ _ _ _ => by decide, fun h => absurd rfl (h _ 1 rfl (Or.inr rfl)), ?_⟩
  decide +kernel

/-- A last DETECT attempt answered with one channel too few (SHAPE), and with the answer flag clear (UNANSWERED), before
a rotation slot. -/
theorem test_witness_TimeoutRepeatsOrFallsBack_counts :
    let s := inSlot (.detect 1) [.rotation]
    let counts (f : RingFrame) := ((after (.ringFrameReceived .ret f.bytes) s).dirEntry 1).map fun e =>
      (e.crcErrors, e.timeouts, e.failures)
    s.dirEntry 1 = some (dtnAt 1) ∧ s.ring.cycle = some ⟨[.rotation], [], false⟩
      ∧ counts ⟨0x84, 1, [1, 0, 0]⟩ = some (1, 0, 1) ∧ counts ⟨0x04, 1, []⟩ = some (0, 1, 1)
      ∧ (after (.ringFrameReceived .ret (RingFrame.mk 0x04 1 []).bytes) s).ring.attempt.map (·.job) = some (.scan 0) := by
  decide +kernel

theorem test_witness_ScanAnswerDelivered :
    let s := { inSlot (.scan 0) [.detect 1] with
      records.cells := [goodCell, goodCell], records.sensors := [emptySensor] }
    let d := inSlot (.detect 1) [.rotation]
    let answer := RingFrame.mk 0x84 1 ((List.replicate 2 [1, 0, 50]).flatten)
    s.ring.attempt = some (tried (.scan 0)) ∧ (tried (.scan 0)).job = .scan 0 ∧ (tried (.scan 0)).rx = none
      ∧ (tried (.scan 0)).listensAt = .ret ∧ s.ring.cycle = some ⟨[.detect 1], [], false⟩
      ∧ s.dirEntry 0 = some (csnAt 0)
      ∧ (csnAt 0).kind = .csn [((1 : Word16), (2 : Word16)), (3, 4)].length [(5 : Word16)].length
      ∧ nodeSpan s.ring.directory 0 = some ⟨csnAt 0, 2, 1, 0, 0⟩ ∧ (csnAt 0).lastCounter ≠ some 7
      ∧ d.ring.attempt = some (tried (.detect 1)) ∧ d.dirEntry 1 = some (dtnAt 1)
      ∧ (dtnAt 1).kind = .dtn [((1 : Byte), (50 : Word16)), (1, 50)].length
      ∧ (after (.ringFrameReceived .ret answer.bytes) d).ring.attempt.map (·.job) = some (.scan 0) := by
  decide +kernel

theorem test_witness_EnumerationSucceeds :
    let kinds : List NodeKind := [.csn 16 4, .dtn 8, .csn 1 0]
    State.reset.ring.state = .enumerating ∧ State.reset.ring.attempt = some enumerationAttempt
      ∧ enumerationAttempt.job = .enumerate ∧ enumerationAttempt.rx = none
      ∧ enumerationAttempt.listensAt = .ret ∧ kinds.countP (·.isCsn) ≤ 20 ∧ kinds.countP (!·.isCsn) ≤ 4
      ∧ 1 ≤ 16 ∧ 16 ≤ 16 ∧ 4 ≤ 4 ∧ 1 ≤ 8 ∧ 8 ≤ 8 ∧ 1 ≤ 1 ∧ 0 ≤ 4 := by decide

/-- R10's failed results at the edges of its four checks, and CORRUPT from a last attempt with a wrong check. -/
theorem test_witness_EnumerationSucceeds_fails :
    let s := { State.reset with ring.attempt := some (tried .enumerate) }
    let result (bytes : List Byte) := (after (.ringFrameReceived .ret bytes) s).ring.lastResult
    let returned (payload : List Byte) := result (RingFrame.mk 0x02 0xFF payload).bytes
    s.ring.state = .enumerating ∧ ((tried .enumerate).retryLeft && s.settings.ring.retry) = false
      ∧ (tried .enumerate).fallback = none ∧ returned [25] = some .tooMany ∧ returned [] = some .badDescriptor
      ∧ returned [24] = some .badDescriptor ∧ returned [1, 1, 17, 0] = some .badDescriptor
      ∧ returned [1, 2, 8, 1] = some .badDescriptor
      ∧ returned (21 :: (List.replicate 21 [1, 1, 0]).flatten) = some .tooMany
      ∧ returned (5 :: (List.replicate 5 [2, 1, 0]).flatten) = some .tooMany
      ∧ result [0x7E, 0x02, 0xFF, 0, 0, 0] = some .corrupt ∧ result [0x7E, 0x02, 0xFF, 201] = some .corrupt := by
  decide +kernel

theorem test_witness_ShiftFilter :
    emptyCell.filtered = none ∧ goodCell.filtered = some 33001
      ∧ Settings.default.cell.filterShift ≠ 0 ∧ Settings.default.cell.filterShift = 3
      ∧ ({ Settings.default.cell with filterShift := 0 } : CellSettings).filterShift = 0 := by decide

/-- A rise over the window is taken at its end and not a millisecond before. -/
theorem test_witness_SampleSteps :
    let c := Settings.default.cell
    let x := { emptySensor with reference := some 200, referenceAge := 30000 }
    0 < c.riseWindow ∧ (x.sample c (some 250)).lastRise = some 50 ∧ (x.sample c (some 250)).thermalEvent = true
      ∧ (x.sample c (some 249)).thermalEvent = false ∧ ({ x with referenceAge := 29999 }.sample c (some 250)).lastRise = none
      ∧ c.crossCheck < max 33151 33000 - min 33151 33000 ∧ ¬ c.crossCheck < max 33150 33000 - min 33150 33000 := by decide

/-- The third reading above the OV trip sets the flag; the record masked has no effect; the third mismatch sets
DISAGREE. -/
theorem test_witness_SampleSteps_effects :
    let old := { goodCell with overRun := 2, mismatchRun := 2 }
    let new := old.sample Settings.default.cell false (some 36501) (some 36501)
    let other := old.sample Settings.default.cell false (some 33000) none
    ({ part .run .opened with records.cells := [old] } : State).records.cells[0]? = some old ∧ old.masked = false
      ∧ new.limit ≠ old.limit ∧ new.limit = .over ∧ ({ old with masked := true } : Cell).masked = true
      ∧ other.disagree = true ∧ old.disagree = false ∧ other.limit = old.limit := by decide

/-- A flag that clears: the third reading below the release level. -/
theorem test_witness_SampleSteps_clears :
    let old := { goodCell with limit := .over, overRun := 2 }
    let new := old.sample Settings.default.cell false (some 33000) (some 33000)
    old.masked = false ∧ new.limit = .noFlag ∧ new.limit ≠ old.limit ∧ new.disagree = false := by decide

/-- A cell whose age reaches the lost limit at this cycle end, in a closed string. -/
theorem test_witness_RecordsAged :
    let c := { goodCell with condition := .stale, age := 29 }
    let s := { part .run .closed with records.cells := [c], lines.sample.stringVoltage := 33 }
    s.records.cells[0]? = some c ∧ c.populated = true ∧ c.masked = false ∧ c.sampled = false
      ∧ s.settings.cell.lostLimit = min 255 (c.age + 1) ∧ s.settings.cell.staleLimit ≤ 30
      ∧ s.connection.state = .closed ∧ s.live .negAux = true
      ∧ ((ageRecords false s).connection.lastTrip.map (·.cause)) = some .cellLost
      ∧ (∀ x ∈ [goodCell], x.populated = true ∧ x.condition = .fresh ∧ x.primary ≠ none) := by decide +kernel

/-- A cycle whose last slots are rotation slots that find no node, in RUN and in DORMANT. -/
theorem test_witness_CycleEndPublishes :
    let s := { watched .token [.rotation, .rotation] with
      records.cells := List.replicate 320 goodCell, records.sensors := List.replicate 80 emptySensor }
    let d := { s with stateUnit.state := .dormant, ring.state := .split, ring.tokenLost := true, ring.nodeAnswered := true }
    CycleOver s [.rotation, .rotation] [] ∧ s.ring.cycle = some ⟨[.rotation, .rotation], [], false⟩
      ∧ s.ring.state ≠ .enumerating ∧ s.ring.tokenLost = false ∧ s.ring.startPending = false
      ∧ s.ring.enumeratePending = false ∧ s.stateUnit.sleepPending = false
      ∧ s.records.cells.length = 320 ∧ s.records.sensors.length = 80
      ∧ s.ring.attempt = some (tried .token) ∧ s.ring.state = .closed
      ∧ d.ring.tokenLost = true ∧ d.ring.state = (if d.ring.nodeAnswered then .split else .severed) := by
  refine ⟨⟨2, rfl, fun _ => rfl⟩, rfl, by decide, rfl, rfl, rfl, rfl, ?_, ?_, rfl, rfl, rfl, rfl⟩ <;>
    exact List.length_replicate

/-- An empty journal meets the promise of R197. -/
theorem journalConsecutive_of_empty {s : State} (h : s.portUnit.journal = []) : JournalConsecutive s := by
  simp [JournalConsecutive, h]

/-- The token is lost in a ring of no node, with a sleep and a start pending; and a last DETECT slot fails after a lost
token, with no node answered. -/
theorem test_witness_CycleEndBranches :
    let a := tried .token
    let s := { part .run .opened with
      ring.attempt := some a, ring.cycle := some ⟨[.rotation, .rotation], [], false⟩, ring.startPending := true
      stateUnit.sleepPending := true, records.cells := [goodCell]
      lines.inputs := ((part .run .opened).lines.inputs.set .chillerFault
        { (part .run .opened).input .chillerFault with live := false }) }
    let d := { watched (.detect 1) [.rotation] with ring.state := .split, ring.tokenLost := true }
    JournalConsecutive s ∧ CycleOver s [.rotation, .rotation] [] ∧ CycleOver d [.rotation] []
      ∧ (s.ring.attempt = some a ∧ a.job = .token ∧ a.rx = none ∧ a.listensAt = .ret ∧ a.timeout ≠ none
        ∧ (a.retryLeft && s.settings.ring.retry) = false ∧ a.fallback = none)
      ∧ (s.ring.state ≠ .enumerating ∧ s.ring.cycle = some ⟨[.rotation, .rotation], [], false⟩ ∧ s.ring.tokenLost = false
        ∧ s.connection.state = .opened ∧ s.stateUnit.wakePending = false ∧ s.stateUnit.state = .run)
      ∧ s.records.sensors = [] ∧ (∀ z ∈ Zone.all, (s.zone z).thermal = false) ∧ s.live .chillerFault = false
      ∧ s.cooling.health = .normal ∧ s.cooling.anyCondition = false
      ∧ (after (.ringAnswerTimeout .ret []) s).ring.state = .severed
      ∧ goodCell.age + 1 < s.settings.cell.staleLimit
      ∧ (after (.ringAnswerTimeout .ret []) s).connection.lastTrip.map (·.cause) = some .ringSevered
      ∧ (after (.ringAnswerTimeout .ret []) s).stateUnit.state = .dormant
      ∧ (after (.ringAnswerTimeout .ret []) d).ring.state = .severed
      ∧ (after (.ringAnswerTimeout .ret []) d).ring.cycle = none :=
  ⟨journalConsecutive_of_empty rfl, ⟨2, rfl, fun _ => rfl⟩, ⟨1, rfl, fun _ => rfl⟩, by decide +kernel⟩

/-- A walk from 3 that wraps past 5, a current watch node, to 0; and each kind of slot as the next one. -/
theorem test_witness_RotationSlot :
    let s := { inSlot .token [.rotation, .scan 5] with
      ring.directory := [csnAt 0, csnAt 5], ring.rotation := some 3, ring.windowA := ⟨.fixed, some 5, some 5⟩ }
    s.ring.attempt = some (tried .token) ∧ s.ring.state = .closed
      ∧ s.ring.cycle = some ⟨.rotation :: [.scan 5], [], false⟩ ∧ s.ring.rotation = some 3 ∧ 3 < 24
      ∧ (s.ring.directory.map (·.address)).Pairwise (· < ·) ∧ (∀ e ∈ s.ring.directory, e.address < 24)
      ∧ rotationPick s.ring [] = some 0 ∧ rotationPick s.ring [0] = none
      ∧ (after (.ringFrameReceived .ret (RingFrame.mk 0x01 0xFF []).bytes) s).ring.rotation = some 5
      ∧ (nextSlot (inSlot .token [.detect 1])).ring.attempt.map (·.job) = some (.detect 1)
      ∧ (nextSlot (watched .token [.rotation, .scan 0])).ring.attempt.map (·.job) = some (.scan 0) := by decide +kernel

theorem test_witness_MaskRequest :
    let s := { part .run .opened with records.cells := [{ goodCell with masked := true, limit := .over }, lostCell] }
    (s.connection.state = .opened ∧ (part .run .closed).connection.state ≠ .opened
        ∧ (part .run .closed).connection.state ≠ .lockout ∧ (part .run .closed).stateUnit.state ≠ .setup)
      ∧ (∀ k, k < 2 → (s.records.cells[k]?).any (·.populated) = true)
      ∧ (s.records.cells[0]?).any (fun c => c.masked && c.limit == .over) = true
      ∧ [goodCell, goodCell].countP (fun c => c.masked != false) = 0
      ∧ (0x01 : Byte) ≠ 0x02 ∧ (304 : Word16).toNat + (16 : Byte).toNat ≤ 320
      ∧ ¬ (305 : Word16).toNat + (16 : Byte).toNat ≤ 320 ∧ ¬ (17 : Byte).toNat ≤ 16 := by decide

/-- An UNMASK of a quiet record, with no limit flag and not LOST, and of a LOST one. -/
theorem test_witness_MaskRequest_quiet :
    let c := { goodCell with masked := true }
    let s := { part .dormant .opened with records.cells := [c, { lostCell with masked := true, limit := .noFlag }] }
    s.records.cells[0]? = some c ∧ c.limit = .noFlag ∧ c.condition ≠ .lost
      ∧ (s.records.cells[1]?).any (fun c => c.masked && c.limit == .noFlag && c.condition == .lost) = true
      ∧ (s.connection.state = .opened) := by decide

theorem test_witness_BalanceRequest :
    (part .setup .opened).stateUnit.state ≠ .run ∧ (part .run .opened).stateUnit.state = .run
      ∧ (List.replicate 8 ((0 : Word16), (1 : Word16))).length ≤ 8
      ∧ 8 < (List.replicate 9 ((0 : Word16), (1 : Word16))).length
      ∧ (List.replicate 15 ((0 : Word16), (1 : Word16))).length ≤ 15 := by decide

theorem test_witness_BalancePublication :
    let s := { part .run .opened with
      ring.directory := [csnAt 0], balance := [⟨.active, 1⟩, ⟨.idle, 0⟩]
      records.image.cells := [{ goodCell with filtered := some 33000 }, goodCell] }
    s.balance[0]? = some ⟨.active, 1⟩ ∧ s.balance[1]? = some ⟨.idle, 0⟩
      ∧ (s.records.image.cells[0]?).bind (·.filtered) = some 33000 ∧ 33000 ≤ s.settings.balance.bleedFloor
      ∧ (s.records.image.cells[1]?).bind (·.filtered) = some 33001 ∧ s.settings.balance.bleedFloor < 33001
      ∧ nodeSpan s.ring.directory 0 = some ⟨csnAt 0, 2, 1, 0, 0⟩ := by decide

theorem test_witness_StoredLimits :
    ¬ ZeroingHolds (part .run .opened) ∧ ZeroingHolds (part .setup .opened)
      ∧ Settings.default.envelope.rampRate = 500 ∧ Settings.default.ring.period = 200 := by
  refine ⟨?_, Or.inl (by decide), rfl, rfl⟩
  rintro (h | h | ⟨z, h⟩ | h)
  · exact h rfl
  · revert h; decide
  · revert h; cases z <;> exact fun h => h.1 rfl
  · revert h; decide

/-- A disagreeing cell gives its higher reading, and two sensors lie between and above the derating points. -/
theorem test_witness_EnvelopeComputation :
    let x := { goodCell with disagree := true, primary := some 35000, secondary := some 34000 }
    let t (v : Int) : Sensor := { emptySensor with populated := true, condition := .fresh, reading := some v }
    let s := { part .run .opened with records.image.cells := [x, goodCell], records.image.sensors := [t 50, t 551] }
    let n := (compute true s).envelope
    ((zoned .preAlarm (part .run .opened)).zone .z4).state = .preAlarm ∧ s.settings.envelope.derating ≠ []
      ∧ n.vmax = some 35000 ∧ n.vmin = some 33001 ∧ n.tmin = some 50 ∧ n.tmax = some 551
      ∧ n.charge.voltageFactor = 682 ∧ n.discharge.temperatureFactor = 512 ∧ n.charge.temperatureFactor = 0
      ∧ derate s.settings.envelope.derating (·.discharge) 50 = 896 := by decide +kernel

theorem test_witness_EnvelopeNotice :
    Settings.default.envelope.ratedCharge = 2800 ∧ Settings.default.envelope.ratedDischarge = 3200 := by decide

theorem test_witness_LineSampleTaken :
    let s := { part .run .closed with monitor.monitoring := true, monitor.dischargeSum := 19999 }
    let p := { part .run .precharging with connection.negConfirmed := some true }
    let h := { part .run .shedding with connection.opening := some (openingOf .request .openRequest) }
    s.monitor.monitoring = true ∧ s.connection.state = .closed ∧ p.monitor.monitoring = false
      ∧ p.connection.state = .precharging ∧ p.connection.negConfirmed = some true
      ∧ ((100 : Int) - 0).natAbs ≤ p.settings.connection.prechargeTolerance
      ∧ p.settings.connection.prechargeTolerance < ((101 : Int) - 0).natAbs
      ∧ h.connection.state = .shedding ∧ h.connection.opening = some (openingOf .request .openRequest)
      ∧ (100 : Int).natAbs ≤ h.settings.connection.breakCurrent
      ∧ h.settings.connection.breakCurrent < (101 : Int).natAbs
      ∧ 0 < s.settings.envelope.excessBudget ∧ 1000 * s.settings.envelope.excessBudget ≤ 1000000
      ∧ (part .run .opened).monitor.monitoring = false := by decide

/-- The first failing gate: the ring (tenth), with the nine before it passing. -/
theorem test_witness_CloseRequest :
    let s := { ready with ring.state := .severed }
    s.connection.state = .opened ∧ s.ring.state ≠ .closed ∧ s.ring.state ≠ .split
      ∧ s.stateUnit.state = .run ∧ s.connection.permit.energy = .granted ∧ s.connection.permit.grid = .valid
      ∧ s.live .feederClosed = true ∧ s.live .estop = false ∧ s.live .door = false
      ∧ (part .run .precharging).connection.state = .precharging ∧ (part .run .lockout).connection.state = .lockout
      ∧ (part .run .shedding).connection.state = .shedding ∧ (part .run .closed).connection.state = .closed := by decide

theorem test_witness_CloseRequest_accepted :
    ready.connection.state = .opened ∧ ready.stateUnit.state = .run ∧ ready.stateUnit.sleepPending = false
      ∧ ready.connection.permit.energy = .granted ∧ ready.connection.permit.grid = .valid
      ∧ ready.live .feederClosed = true ∧ ready.live .estop = false ∧ ready.live .door = false
      ∧ (∀ z ∈ Zone.all, (ready.zone z).state = .normal) ∧ ready.records.cells = [] ∧ ready.records.sensors = []
      ∧ ready.ring.state = .closed ∧ ready.envelope.charge.target ≠ 0
      ∧ ready.live .posAux = false ∧ ready.live .negAux = false
      ∧ (reads .negAux true ready).live .negAux = true ∧ (reads .posAux true ready).live .posAux = true := by decide

theorem test_witness_OpenAndRemoteTrip :
    (part .run .precharging).connection.state = .precharging ∧ (part .run .precharging).live .posAux = true
      ∧ (apart (part .run .closing)).live .negAux = false ∧ (apart (part .run .closing)).live .posAux = false
      ∧ (part .run .closed).connection.state = .closed
      ∧ (part .run .closed).settings.connection.breakCurrent
        < ({ part .run .closed with lines.sample.current := -101 } : State).lines.sample.current.natAbs
      ∧ (part .run .closed).lines.sample.current.natAbs ≤ (part .run .closed).settings.connection.breakCurrent := by
  decide

theorem test_witness_TripTable :
    let s := { part .run .opening with connection.opening := some (openingOf .request .openRequest) }
    let h := { part .run .shedding with connection.opening := some (openingOf .shed (.trip .feederOpened)) }
    TripCause.class_ .estop = .severe ∧ TripCause.class_ .gridLapsed = .shed ∧ TripCause.class_ .auxLost = .hard
      ∧ (part .run .opened).connection.state = .opened ∧ (part .run .lockout).connection.state = .lockout
      ∧ (part .run .closed).live .negAux = true ∧ (part .run .closing).connection.state = .closing
      ∧ h.connection.opening = some (openingOf .shed (.trip .feederOpened)) ∧ h.live .posAux = true
      ∧ s.connection.opening = some (openingOf .request .openRequest)
      ∧ (openingOf .request .openRequest).class_ ≠ .severe := by decide

theorem test_witness_OpeningEntered :
    (part .run .closed).live .negAux = true ∧ (apart (part .run .closed)).live .negAux = false
      ∧ (apart (part .run .closed)).live .posAux = false ∧ (openingOf .hard (.trip .auxLost)).class_ ≠ .severe
      ∧ (openingOf .severe (.trip .estop)).class_ = .severe
      ∧ (openingOf .severe (.trip .estop)).cause = .trip .estop := by decide

theorem test_witness_OpenAndRemoteTrip_remote :
    let s := { part .run .opening with connection.opening := some (openingOf .shed (.trip .feederOpened)) }
    (part .run .opened).connection.state = .opened ∧ (part .run .closed).connection.state ≠ .opened
      ∧ (part .run .closed).connection.state ≠ .lockout ∧ (part .run .closed).live .negAux = true
      ∧ s.connection.opening = some (openingOf .shed (.trip .feederOpened))
      ∧ (openingOf .shed (.trip .feederOpened)).class_ ≠ .hard
      ∧ (openingOf .hard (.trip .auxLost)).class_ = .hard := by decide

/-- The part at the pair of R98: the confirm countdown has run out, and a NEG_AUX change to closed has arrived. -/
def pairState : State :=
  let s := apart { part .run .precharging with connection.confirm := some 0, connection.negConfirmed := some false }
  setInput .negAux { s.input .negAux with started := true, raw := true, live := false, debounce := some 0 } s

/-- R98: with the expiry first, the change finds OPENING, and is taken. -/
theorem test_confirm_pair_expiry_first :
    (after .confirmCountdownExpiry pairState).connection.state = .opening
      ∧ (after .confirmCountdownExpiry pairState).live .negAux = true := by decide +kernel
/-- R98, R110: with no change arrived (an edge came first and took the level back), the failure opens at its entry. -/
theorem test_confirm_pair_edge_back :
    (after .confirmCountdownExpiry (after (.inputEdge .negAux false) pairState)).connection.state = .opened := by
  decide +kernel
/-- R98: with the change first, NEG is confirmed and the countdown cancelled. -/
theorem test_confirm_pair_change_first :
    (after (.debounceExpiry .negAux)
      { pairState with lines.sample.stringVoltage := 101 }).connection.negConfirmed = some true := by decide +kernel

theorem test_witness_ConnectionExpiries_pair :
    let e := after (.inputEdge .negAux false) pairState
    pairState.connection.confirm = some 0 ∧ pairState.connection.state = .precharging
      ∧ (pairState.input .negAux).started = true
      ∧ (pairState.input .negAux).debounce = some 0 ∧ (pairState.input .negAux).raw = true
      ∧ (pairState.input .negAux).live = false ∧ pairState.live .posAux = false
      ∧ e.connection.confirm = some 0 ∧ e.connection.state = .precharging ∧ (e.input .negAux).raw = false
      ∧ e.live .negAux = false ∧ e.live .posAux = false := by decide +kernel

theorem test_witness_ConnectionExpiries :
    let s := { part .run .precharging with connection.confirm := some 0, connection.precharge := some 0 }
    let h := { part .run .shedding with
      connection.shed := some 0, connection.opening := some (openingOf .request .openRequest) }
    s.connection.confirm = some 0 ∧ s.connection.precharge = some 0 ∧ s.connection.state = .precharging
      ∧ s.live .negAux = true ∧ (apart s).live .negAux = false ∧ (apart s).live .posAux = false
      ∧ (part .run .opened).connection.confirm ≠ some 0 ∧ h.connection.shed = some 0 ∧ h.connection.state = .shedding ∧ h.live .posAux = true
      ∧ h.connection.opening = some (openingOf .request .openRequest) := by decide

theorem test_witness_PermitRequests :
    let s := { ready with connection.state := .closed, lines.sample.current := 101 }
    (0x01 : Byte) ≠ 0x02 ∧ (0x03 : Byte) ≠ 0x01 ∧ (part .run .opened).connection.permit.energy = .withdrawn
      ∧ s.connection.permit.energy = .granted ∧ s.connection.permit.grid = .valid
      ∧ (part .run .opened).connection.permit.grid = .lapsed
      ∧ ({ part .run .opened with connection.permit.grid := .withdrawn } : State).connection.permit.grid = .withdrawn
      ∧ ({ s with connection.permit.holdRemaining := some 0 } : State).connection.permit.holdRemaining = some 0
      ∧ s.connection.permit.holdRemaining ≠ some 0 ∧ s.connection.state = .closed
      ∧ s.settings.connection.breakCurrent < s.lines.sample.current.natAbs
      ∧ (9 : Word16).toNat < 10 ∧ ¬ (10 : Word16).toNat < 10 ∧ 3600 < (3601 : Word16).toNat := by decide

theorem test_witness_ClearLockoutVotes :
    let s := { apart (part .run .lockout) with
      connection.lockout := some ⟨.weld, none, some .neg, 0⟩, connection.stationVote := some 1 }
    s.connection.state = .lockout ∧ s.live .negAux = false ∧ s.live .posAux = false
      ∧ (∀ z ∈ Zone.all, (s.zone z).state = .normal) ∧ s.records.cells = [] ∧ s.connection.stationVote ≠ none
      ∧ s.connection.siteVote = none ∧ s.connection.lockout = some ⟨.weld, none, some .neg, 0⟩
      ∧ (part .run .lockout).live .negAux = true ∧ (part .run .opened).connection.state ≠ .lockout := by decide

theorem test_witness_ZoneExpiries :
    let s := zoned .preAlarm (part .run .closed)
    let r := { s.zone .z4 with clearCountdown := some 0, singleSource := some 0 }
    let t := setZone .z4 r s
    let a := { t with stateUnit.settings.fire.arming := ⟨true, true, true, true⟩ }
    let n := { a with stateUnit.settings.fire.releaseDelay := 0 }
    (t.zone .z4).clearCountdown = some 0 ∧ (t.zone .z4).singleSource = some 0 ∧ (t.zone .z4).state = .preAlarm
      ∧ (counting .z4 |>.zone .z4).countdown = some 0 ∧ (counting .z4 |>.zone .z4).state = .countdown
      ∧ t.settings.fire.arming.get .z4 = false ∧ a.settings.fire.arming.get .z4 = true
      ∧ a.live .holdSwitch = false ∧ (reads .holdSwitch true a).live .holdSwitch = true
      ∧ 1000 * a.settings.fire.releaseDelay ≠ 0 ∧ 1000 * n.settings.fire.releaseDelay = 0
      ∧ ((zoned .countdown s).zone .z4).state = .countdown ∧ s.stateUnit.state ≠ .dormant := by decide

theorem test_witness_ZoneRequests :
    let s := part .run .opened
    let h := setZone .z4 { s.zone .z4 with state := .held, stationHold := true, countdown := some 0 } s
    Zone.ofNumber (4 : Byte).toNat = some .z4 ∧ 4 < (5 : Byte).toNat ∧ ((zoned .countdown s).zone .z4).state = .countdown
      ∧ ((zoned .released s).zone .z4).state = .released ∧ ((zoned .alarm s).zone .z4).state = .alarm
      ∧ (h.zone .z4).state = .held ∧ (h.zone .z4).stationHold = true ∧ (h.zone .z4).countdown = some 0
      ∧ h.live .holdSwitch = false ∧ (reads .holdSwitch true h).live .holdSwitch = true
      ∧ (zoned .released s).live .agentReady = false ∧ (reads .agentReady true s).live .agentReady = true
      ∧ (s.zone .z4).thermal = false ∧ s.zones.channels = [] := by decide

/-- PURGE is the second case: a RELEASED zone, gas at WARN, the latch held. -/
theorem test_witness_CoolingEvaluation :
    let s := zoned .released (part .run .opened)
    let c := { freshChannel 0 0 (some .z4) with kind := some .offgas, level := .warn }
    let p := { s with zones.channels := [c], cooling.purgeLatch := true }
    (p.zone .z4).state = .released ∧ p.cooling.purgeLatch = true ∧ c ∈ p.zones.channels ∧ c.zone = some .z4
      ∧ c.kind = some .offgas ∧ (∀ z ∈ Zone.all, (p.zone z).state ∉ [ZoneState.countdown, .held])
      ∧ (evaluateCooling p).cooling.mode = .purge ∧ (evaluateCooling s).cooling.mode = .seal
      ∧ (evaluateCooling (part .run .opened)).cooling.mode = .idle := by decide

theorem test_witness_CoolingPublication :
    let x := { emptySensor with populated := true, condition := .fresh, reading := some 49 }
    let s := { part .run .opened with records.image.sensors := [x] }
    x ∈ s.records.image.sensors ∧ x.reading = some 49 ∧ (49 : Int) < s.settings.cooling.heatOn := by decide

theorem test_witness_OverrideRequests :
    (part .run .opened).cooling.override = none
      ∧ ({ part .run .opened with
            cooling.override := some ⟨0, 0, 0, 0, false, false, false, 1, 0⟩ } : State).cooling.override.any
          (·.remaining == 0) = true
      ∧ (0x01 : Byte) ≠ 0x02 ∧ (0x00 : Byte) ≠ 0x01 := by decide

theorem test_witness_CoolingHealth :
    let s := { part .run .opened with cooling.flowCountdown := some 0 }
    let d := { s with cooling.health := .degraded, cooling.recovery := some 0 }
    s.cooling.flowCountdown = some 0 ∧ s.cooling.health = .normal ∧ d.cooling.health = .degraded
      ∧ d.cooling.recovery = some 0 ∧ s.stateUnit.state ≠ .dormant := by decide

theorem test_witness_InputDebounced :
    let s := part .run .closed
    let r := { s.input .estop with debounce := some 0, started := true, live := false, raw := true, armed := true }
    let t := setInput .estop r s
    (s.input .door).raw = true ∧ (s.input .door).raw ≠ false ∧ (s.input .door).started = false
      ∧ (s.input .door).debounce ≠ some 0 ∧ (reads .door true s |>.input .door).debounce ≠ some 0
      ∧ (t.input .estop).debounce = some 0 ∧ (t.input .estop).started = true
      ∧ (t.input .estop).raw ≠ (t.input .estop).live ∧ (t.input .estop).armed = true
      ∧ (t.input .estop).raw = true := by decide

/-- An auxiliary contact that changes, one that starts at the level held and at another. -/
theorem test_witness_InputDebounced_contacts :
    let s := part .run .opened
    let r := { s.input .negAux with debounce := some 0, raw := true }
    let t := setInput .negAux { r with started := true, live := false } s
    let u := setInput .posAux { s.input .posAux with debounce := some 0, raw := false, live := true } s
    let v := setInput .negAux { r with live := true } s
    (t.input .negAux).debounce = some 0 ∧ (t.input .negAux).started = true
      ∧ (t.input .negAux).raw ≠ (t.input .negAux).live ∧ (u.input .posAux).debounce = some 0
      ∧ (u.input .posAux).started = false ∧ (u.input .posAux).raw ≠ (u.input .posAux).live
      ∧ (v.input .negAux).started = false ∧ (v.input .negAux).raw = (v.input .negAux).live
      ∧ (v.input .negAux).debounce = some 0 := by decide

theorem test_witness_ContactChanged :
    let p := { part .run .precharging with connection.negConfirmed := some false }
    let o := reads .posAux false p
    let g := { apart (part .run .opening) with connection.opening := some (openingOf .severe (.trip .estop)) }
    let k := { apart (part .run .precharging) with connection.negConfirmed := some true }
    p.connection.state = .precharging ∧ p.live .posAux = true ∧ o.live .posAux = false
      ∧ g.connection.opening = some (openingOf .severe (.trip .estop)) ∧ g.live .negAux = false
      ∧ g.live .posAux = false ∧ k.connection.negConfirmed = some true ∧ k.live .negAux = false
      ∧ (part .run .opening).live .negAux = true ∧ (apart (part .run .closing)).live .posAux = false
      ∧ o.connection.negConfirmed = some false
      ∧ ((o.lines.sample.stringVoltage : Int) - o.lines.sample.linkVoltage).natAbs
        ≤ o.settings.connection.prechargeTolerance
      ∧ (part .run .closing).connection.state = .closing ∧ (part .run .shedding).connection.state = .shedding
      ∧ ((reads .negAux true (reads .posAux true (part .run .opened))).lines.inputs.get .negAux).started = true := by
  decide

theorem test_witness_NoticeRequests : 1024 ≤ (1024 : Word16).toNat ∧ (1023 : Word16).toNat < 1024
    ∧ (0x0100 : Word16).getLsbD 8 = true ∧ (0x00FF : Word16).getLsbD 8 = false
    ∧ (State.reset.port .site).handsOver .site (.ack .site 1023) = true := by decide

theorem test_witness_ReadsAnswered :
    let s := { part .run .opened with
      records.image.cells := List.replicate 12 goodCell, records.image.sensors := [emptySensor]
      zones.channels := [freshChannel 0 0 none] }
    let j := (append RingState.severed.journal s)
    let late := setPort .site { j.port .site with cursor := 0xFFFF } j
    (23 : Byte).toNat ≤ 23 ∧ (8 : Byte).toNat ≤ 8 ∧ 8 < (9 : Byte).toNat ∧ 23 < (24 : Byte).toNat
      ∧ (s.port .site).handsOver .site (.readState .site) = true ∧ (0 : Byte).toNat = 0
      ∧ (12 : Byte).toNat ≤ 12 ∧ s.records.image.cells.length < (1 : Word16).toNat + (12 : Byte).toNat
      ∧ (0 : Word16).toNat + (12 : Byte).toNat ≤ s.records.image.cells.length
      ∧ (0 : Word16).toNat + (1 : Byte).toNat ≤ s.records.image.sensors.length
      ∧ (0 : Byte).toNat + (1 : Byte).toNat ≤ s.zones.channels.length
      ∧ (s.portUnit.nextSequence - (s.port .site).cursor).toNat = 0
      ∧ (j.portUnit.nextSequence - (j.port .site).cursor).toNat = j.portUnit.journal.length
      ∧ j.portUnit.journal.length < (late.portUnit.nextSequence - (late.port .site).cursor).toNat := by decide

theorem test_witness_PortQueue :
    let q := (part .setup .opened).port .site
    let waits := setPort .site { q with queue := [⟨0x25, []⟩] } (part .setup .opened)
    let full := setPort .site { q with answer := some ⟨1, .ok, 0, false, []⟩, queue := [⟨1, []⟩, ⟨1, []⟩] } waits
    requestOf (.unknownRequest .site 0x0E []) = some (.site, ⟨0x0E, []⟩)
      ∧ requestOf (.close .station 1) = some (.station, ⟨0x40, [1]⟩)
      ∧ requestOf (.setSetting .site 1 1 0 []) = some (.site, ⟨0x20, [1, 1, 0]⟩)
      ∧ ([1, 1, 0] : List Byte).length ∉ [6, 7, 9] ∧ q.handsOver .site (.sleep .site) = true
      ∧ (waits.port .site).handsOver .site (.wake .site) = true ∧ (waits.port .site).queue.length < 2
      ∧ (waits.port .site).handsOver .site (.sleep .site) = false ∧ portCheckOf .site ⟨0x25, []⟩ = none
      ∧ (full.port .site).handsOver .site (.sleep .site) = false ∧ 2 ≤ (full.port .site).queue.length := by decide

theorem test_witness_PortQueue_sent :
    let a : Answer := ⟨0x26, .ok, 0, false, []⟩
    let r := { (part .setup .opened).port .site with
      answer := some a, queue := [⟨0x26, []⟩, ⟨0x51, [0x00]⟩] }
    let s := setPort .site r { part .setup .opened with stateUnit.restart := .answered }
    (s.port .site).answer = some a ∧ s.stateUnit.restart = .answered ∧ a.code = 0x26 ∧ a.status = .ok
      ∧ (s.port .site).queue.tail = [⟨0x51, [0x00]⟩]
      ∧ portCheckOf .site ⟨0x51, [0x00]⟩ = some .notPermitted ∧ portCheckOf .site ⟨0x01, []⟩ = none := by decide

theorem test_witness_PortQueue_frames :
    let r := { (part .setup .opened).port .site with
      answer := some ⟨0x01, .ok, 0, false, []⟩, queue := [⟨0x01, []⟩, ⟨0x02, [0, 8]⟩] }
    ((part .setup .opened).port .site).rx = none ∧ (0xA5 : Byte) ∉ ([0xA4, 0xA6] : List Byte)
      ∧ (List.replicate 63 (0 : Byte)).length ≤ 63 ∧ ((part .setup .opened).port .site).queue.length < 2
      ∧ ((part .setup .opened).port .site).queue = [] ∧ portCheckOf .site ⟨0x01, []⟩ = none
      ∧ 2 ≤ r.queue.length ∧ r.answer ≠ none ∧ 64 < (65 : Byte).toNat ∧ ([0, 0] : List Byte).length = 2
      ∧ ([1] : List Byte) <+: (Request.mk 0x01 []).covered := by decide

/-- R188: on an idle port a frame without the right, or with a wrong length, is answered as it arrives. -/
theorem test_witness_PortQueue_answered :
    let s := part .setup .opened
    let sent (q : Request) := answered .site (after (.portFrameReceived .site q.bytes) s)
    (s.port .site).answer = none ∧ ([] ++ [Request.mk 0x51 [0]]).head? = some ⟨0x51, [0]⟩
      ∧ portCheckOf .site ⟨0x51, [0]⟩ = some .notPermitted ∧ portCheckOf .site ⟨0x27, []⟩ = some .badLength
      ∧ sent ⟨0x51, [0]⟩ = some (.notPermitted, []) ∧ sent ⟨0x27, []⟩ = some (.badLength, [])
      ∧ sent ⟨0x0E, []⟩ = none := by decide +kernel

/-- Every check passes with an empty ring and an empty map; the last check fails with heat-off at heat-on. -/
theorem test_witness_EnterRunRequest :
    let s := { part .setup .opened with ring.lastResult := some .ok }
    let f := { s with stateUnit.settings.cooling.heatOff := 50 }
    (runChecks s).all (fun c => !c.2) = true ∧ s.stateUnit.state = .setup
      ∧ (runChecks f).find? (·.2) = some (.thermalBands, true) := by decide

theorem test_witness_OperatingRequests :
    (part .run .closed).connection.state ≠ .opened ∧ (part .run .lockout).connection.state = .lockout
      ∧ (part .dormant .opened).stateUnit.wakePending = false ∧ (part .run .opened).stateUnit.sleepPending = false
      ∧ ({ part .run .opened with stateUnit.sleepPending := true } : State).stateUnit.sleepPending = true
      ∧ (part .setup .opened).ring.cycle = none ∧ (part .setup .opened).ring.state ≠ .enumerating
      ∧ State.reset.ring.state = .enumerating ∧ ((zoned .alarm State.reset).zone .z4).state ≠ .normal
      ∧ (∀ z ∈ Zone.all, (State.reset.zone z).state = .normal) := by decide

/-- The ring cycle period at its lowest, its highest, and off its step; a channel's and a CSN's zone. -/
theorem test_witness_SettingStored :
    SettingKey.ofCode 1 1 0 = some (.item .ringPeriod) ∧ SettingKey.ofCode 1 1 1 = none ∧ SettingKey.ofCode 9 1 0 = none
      ∧ SettingKey.ofCode 2 3 31 = some (.channelZone 31) ∧ SettingKey.ofCode 2 3 32 = none
      ∧ SettingKey.ofCode 2 2 23 = some (.csnZone 23) ∧ SettingKey.ofCode 2 1 23 = some (.nodeMap 23)
      ∧ SettingKey.ofCode 4 7 6 = some (.derating 5) ∧ SettingKey.ofCode 4 7 7 = none
      ∧ SettingKey.ofCode 6 1 4 = some (.arming .z4) ∧ SettingKey.ofCode 6 1 0 = none
      ∧ (SettingKey.nodeMap 0).read [2, 8, 0] = some (.node (some (.dtn 8))) ∧ (SettingKey.nodeMap 0).read [2, 9, 0] = none
      ∧ (SettingKey.derating 0).read [0xFE, 0x70, 4, 0, 0, 0] = some (.point ⟨-400, 1024, 0⟩)
      ∧ (SettingKey.derating 0).read [0xFE, 0x6F, 4, 0, 0, 0] = none
      ∧ (SettingKey.item .ringPeriod).read [0, 0, 0, 50] = some (.number 50)
      ∧ (SettingKey.item .ringPeriod).read [0, 0, 0x07, 0xD0] = some (.number 2000)
      ∧ (SettingKey.item .ringPeriod).read [0, 0, 0, 49] = none
      ∧ (SettingKey.item .ringPeriod).read [0, 0, 0, 55] = none
      ∧ (SettingKey.channelZone 31).read [0, 0, 0, 4] = some (.channelZone (.zone .z4))
      ∧ (SettingKey.csnZone 23).read [0, 0, 0, 0] = none := by decide

theorem test_witness_SettingStored_channel :
    let s := { part .setup .opened with
      ring.directory := [dtnAt 5], zones.channels := [freshChannel 5 0 (some .z1)] }
    JournalConsecutive s
      ∧ s.stateUnit.state = .setup ∧ SettingKey.ofCode 2 3 0 = some (.channelZone 0)
      ∧ s.zones.channels[0]? = some (freshChannel 5 0 (some .z1))
      ∧ 5 ∈ (s.ring.directory.filter fun e => !e.kind.isCsn).map (·.address)
      ∧ some Zone.z2 ≠ (freshChannel 5 0 (some .z1)).zone ∧ some Zone.z1 = (freshChannel 5 0 (some .z1)).zone
      ∧ s.zones.channels[1]? = none ∧ s.settings.map.channelZones.set 0 .unused ≠ s.settings.map.channelZones :=
  ⟨journalConsecutive_of_empty rfl, by decide⟩

theorem test_witness_WatchRequest :
    let s := { part .run .opened with ring.directory := [csnAt 0, dtnAt 1], ring.windowB := ⟨.fixed, some 0, none⟩ }
    s.ring.csns.contains 0 = true ∧ s.ring.csns.contains 1 = false ∧ s.ring.windowB.mode = .fixed
      ∧ s.ring.windowB.chosen = some 0 ∧ s.ring.windowA.mode = .auto ∧ (0x02 : Byte) ≠ 0x01 := by decide

/-- HEAT at 70.0 °C after its window; MANUAL pressed; OFFGAS above its range. -/
theorem test_witness_DetectReadingApplied :
    let f := Settings.default.fire
    let c := { freshChannel 0 0 (some .z1) with kind := some .heat, reference := some 600, referenceAge := 30000 }
    ChannelKind.code .heat = 2 ∧ (c.apply f ⟨2, false, 700⟩).lastRise = some 100
      ∧ (c.apply f ⟨2, false, 700⟩).candidate = some .alarm ∧ (c.apply f ⟨4, false, 1⟩).level = .call
      ∧ (c.apply f ⟨1, false, 5001⟩).fault = some .badValue ∧ (c.apply f ⟨5, false, 0⟩).fault = some .badKind
      ∧ 1000 * f.heatRiseWindow ≤ c.referenceAge := by decide

theorem test_witness_ZoneEvaluated :
    let quiet := freshChannel 0 0 (some .z4)
    let alarm := { quiet with level := .alarm, fault := none }
    let s := part .run .opened
    let two := { s with zones.channels := [alarm, alarm] }
    let one := { s with zones.channels := [alarm, quiet] }
    let moved : Evidence := { active := [.channel 0] }
    let still := { part .run .lockout with zones.channels := [alarm, alarm] }
    (s.zone .z4).state = .normal ∧ two.zones.channels.countP (fun c => decide (c.zone = some .z4 ∧ c.level = .alarm)) = 2
      ∧ one.zones.channels.countP (fun c => decide (c.zone = some .z4 ∧ c.level = .alarm)) = 1
      ∧ ((zoned .preAlarm one).zone .z4).state = .preAlarm ∧ ((zoned .aborted one).zone .z4).state = .aborted
      ∧ still.connection.state = .lockout ∧ still.stateUnit.state ≠ .dormant ∧ still.live .holdSwitch = false
      ∧ moved.active = [.channel 0] ∧ moved.calls = [] ∧ two.settings.fire.arming.get .z4 = false := by decide

/-- Zone 1 gains a thermal source at a publication; zone 4 loses its last healthy channel. -/
theorem test_witness_ZonesTakePublications :
    let s := { part .run .opened with
      ring.directory := [csnAt 0], records.image.summary.thermalNodes := [0]
      zones.channels := [freshChannel 5 0 (some .z4)] }
    ((zonePublication s).zone .z1).thermal = true ∧ (s.zone .z1).thermal = false
      ∧ ((zonePublication s).zone .z1).state = .preAlarm ∧ (s.zone .z4).blind = false
      ∧ ((workOutFlags s .z4).zone .z4).blind = true := by decide +kernel

/-- Two zones whose thermal source changes at one publication are both evaluated (R128). -/
theorem test_publication_reaches_two_zones :
    let s := { part .run .opened with
      ring.directory := [csnAt 0, { csnAt 1 with zone := some .z2 }], records.image.summary.thermalNodes := [0, 1] }
    ((zonePublication s).zone .z1).state = .preAlarm ∧ ((zonePublication s).zone .z2).state = .preAlarm := by
  decide +kernel

/-- A channel that becomes CALL confirms its zone at the delivery (R122, R131). -/
theorem test_delivery_evaluates_its_zone :
    let s := { part .run .opened with zones.channels := [freshChannel 5 0 (some .z3)] }
    ((detectDelivery 5 [⟨4, false, 1⟩] s).zone .z3).state = .alarm := by decide +kernel

theorem test_witness_RequestCodingRoundTrip :
    let c := Instr.setSetting .site 1 1 0 (List.replicate 60 0)
    c.wellFormed = true ∧ (requestOf c).map (fun x => x.2.payload.length) = some 63
      ∧ portCheckOf .site ⟨0x29, [0]⟩ = none ∧ readRequest .site ⟨0x29, [0]⟩ = some (.balance .site []) := by decide

/-! ## States that meet the invariants, and step -/

/-- A released zone in a locked out string, with a minute tick waiting. -/
def burning : State :=
  let s := zoned .released (part .run .lockout)
  { s with lines.outputs.agent := ⟨false, false, false, true⟩, cooling.mode := .seal, pending := [.minuteTick] }

theorem test_witness_FireOutputsKept :
    LinesFollowState burning ∧ AgentLinesFollowZones burning ∧ SealedInFire burning
      ∧ (burning.zone .z4).state = .released ∧ ∃ t, step burning = .next t := by
  refine ⟨⟨rfl, rfl, rfl, rfl⟩, ?_, ⟨fun _ => Or.inl rfl, fun h => absurd h (by decide)⟩, rfl, _, rfl⟩
  intro z
  cases z <;> decide

/-- RUN with a limit at its target, and a minute tick waiting. -/
def limited : State :=
  { part .run .opened with
    envelope.charge.target := 100, envelope.charge.effective := 100, pending := [.minuteTick] }

theorem test_witness_EnvelopeKept :
    EnvelopeZeroed limited ∧ EnvelopeWithinTargets limited ∧ ¬ ZeroingHolds limited ∧ ∃ t, step limited = .next t := by
  have runs : ¬ ZeroingHolds limited := by
    rintro (h | h | ⟨z, h⟩ | h)
    · exact h rfl
    · revert h; decide
    · revert h; cases z <;> exact fun h => h.1 rfl
    · revert h; decide
  refine ⟨⟨fun h => absurd h runs, ?_⟩, ?_, runs, _, rfl⟩
  · rintro ⟨z, h⟩
    revert h
    cases z <;> decide
  · unfold EnvelopeWithinTargets
    decide

/-- A closed string with its monitor running, one good cell, and a minute tick waiting. -/
def carrying : State :=
  { ready with
    connection.state := .closed, monitor.monitoring := true, records.cells := [goodCell], pending := [.minuteTick] }

theorem test_witness_settings_in_range : SettingsInRange carrying := by
  refine ⟨?_, by decide, ?_, by decide, by decide⟩
  · intro i
    cases i <;> decide
  · intro k h
    exact absurd (List.eq_of_mem_replicate h) (by simp)

theorem test_witness_ConnectionKept :
    ClosedOnlyWhileSafe carrying ∧ MonitorKept carrying ∧ carrying.connection.state = .closed
      ∧ ∃ t, step carrying = .next t := by
  refine ⟨⟨fun _ => ⟨rfl, ?_, ?_, rfl, rfl, rfl⟩, fun h => absurd h (by decide)⟩, ⟨by decide, fun _ => by decide⟩, rfl,
    _, rfl⟩
  · intro z
    cases z <;> exact fun h => h.1 rfl
  · unfold CellLost
    decide

/-- One record in the journal, and a minute tick waiting. -/
def journalled : State := { append RingState.severed.journal (part .run .opened) with pending := [.minuteTick] }

theorem test_witness_JournalKeptConsecutive :
    JournalConsecutive journalled ∧ journalled.portUnit.journal.length = 1 ∧ ∃ t, step journalled = .next t := by
  refine ⟨⟨by decide, ?_⟩, by decide, _, rfl⟩
  rintro (_ | k) r h
  · cases h
    decide
  · cases h

/-- Two windows on two CSNs, and a minute tick waiting. -/
def watching : State :=
  { part .run .opened with
    ring.directory := [csnAt 0, csnAt 1], ring.windowA := ⟨.fixed, some 0, some 1⟩
    ring.windowB := ⟨.auto, some 1, some 0⟩, pending := [.minuteTick] }

theorem test_witness_RingKept_windows :
    WindowsApart watching ∧ watching.ring.windowA.chosen ≠ none ∧ ∃ t, step watching = .next t := by
  refine ⟨⟨?_, ?_, ?_⟩, by decide, _, rfl⟩
  · intro a h
    cases h
    decide
  · intro a h
    cases h
    decide
  · have both : IsCsn watching 0 ∧ IsCsn watching 1 := by
      unfold IsCsn
      decide
    intro w hw a h
    have known : a = 0 ∨ a = 1 := by
      rcases List.mem_cons.1 hw with rfl | hw
      · rcases h with h | h <;> cases h <;> simp
      · rcases List.mem_singleton.1 hw with rfl
        rcases h with h | h <;> cases h <;> simp
    rcases known with rfl | rfl
    · exact both.1
    · exact both.2

/-- A DETECT attempt in a cycle, and its answer timeout waiting: the step goes on to the cycle's last SCAN slot. -/
theorem test_witness_RingKept_attempts :
    let s := { inSlot (.detect 1) [.rotation] with pending := [.ringAnswerTimeout .ret []] }
    NodeAttemptInCycle s ∧ s.ring.attempt.map (·.job) = some (.detect 1)
      ∧ (∃ t, step s = .next t)
      ∧ (after (.ringAnswerTimeout .ret []) s).ring.attempt.map (·.job) = some (.scan 0) :=
  ⟨fun _ _ _ _ => by decide, rfl, ⟨_, rfl⟩, by decide +kernel⟩

/-- One entry of a node active at a cap of 1, and a minute tick waiting. -/
def bleeding : State :=
  { part .run .opened with
    ring.directory := [csnAt 0], balance := ⟨.active, 3⟩ :: List.replicate 319 idleEntry
    stateUnit.settings.balance.nodeCap := 1, pending := [.minuteTick] }

theorem test_witness_BalanceKept :
    BalanceTableKept bleeding ∧ (∃ t, step bleeding = .next t)
      ∧ (slice bleeding.balance 0 2).countP (fun e => e.state != .idle) = 1 := by
  refine ⟨⟨?_, fun h => absurd rfl h, ?_⟩, ⟨_, rfl⟩, by decide⟩
  · show (List.replicate 319 idleEntry).length + 1 = 320
    rw [List.length_replicate]
  · intro p hp
    rcases List.mem_singleton.1 hp with rfl
    decide

theorem test_witness_SettingsKeptInRange : SettingsInRange carrying ∧ ∃ t, step carrying = .next t :=
  ⟨test_witness_settings_in_range, _, rfl⟩

end Sys2Proof.Tests
end

section
/-! The shift filter of a cell (R33): what a fresh sample does to the filtered value. -/

namespace Sys2Proof.Machine

/-! ## The steps after the filter leave the filtered value alone -/

@[simp] theorem crossCheck_filtered (c : CellSettings) (fault : Bool) (r : Cell) :
    (crossCheck c fault r).filtered = r.filtered := by
  unfold crossCheck
  split <;> rfl

@[simp] theorem overCheck_filtered (c : CellSettings) (r : Cell) : (overCheck c r).filtered = r.filtered := by
  unfold overCheck
  dsimp only
  split_ifs <;> rfl

@[simp] theorem underCheck_filtered (c : CellSettings) (r : Cell) : (underCheck c r).filtered = r.filtered := by
  unfold underCheck
  dsimp only
  split_ifs <;> rfl

@[simp] theorem sample_filtered (c : CellSettings) (fault : Bool) (x q : Option Nat) (r : Cell) :
    (r.sample c fault x q).filtered = nextFiltered c.filterShift x r.filtered := by
  simp [Cell.sample]

/-! ## The cases of the filter -/

@[simp] theorem nextFiltered_none (k : Nat) (f : Option Nat) : nextFiltered k none f = f := rfl

theorem nextFiltered_takes_reading {k : Nat} {f : Option Nat} (h : f = none ∨ k = 0) (p : Nat) :
    nextFiltered k (some p) f = some p := by
  cases f with
  | none => rfl
  | some f =>
    have zero : k = 0 := by simpa using h
    simp [nextFiltered, zero]

theorem nextFiltered_filters {k : Nat} (hk : k ≠ 0) (p f : Nat) :
    nextFiltered k (some p) (some f) = some (filterStep k p f) := by
  simp [nextFiltered, hk]

/-! ## The step of the filter -/

/-- Division by an even number with the half added first never passes the dividend: the step of the filter is 0 or
has the sign of the distance, and is no longer than it. -/
theorem div_half_added_between {b : Int} (hb : 0 < b) (d : Int) :
    min 0 d ≤ (d + b) / (2 * b) ∧ (d + b) / (2 * b) ≤ max 0 d := by
  have hpos : 0 < 2 * b := by omega
  rcases le_total 0 d with hd | hd
  · have lower : 0 ≤ (d + b) / (2 * b) := Int.ediv_nonneg (by omega) hpos.le
    have upper : (d + b) / (2 * b) < d + 1 := Int.ediv_lt_of_lt_mul hpos (by nlinarith)
    omega
  · have lower : d ≤ (d + b) / (2 * b) := (Int.le_ediv_iff_mul_le hpos).2 (by nlinarith)
    have upper : (d + b) / (2 * b) < 1 := Int.ediv_lt_of_lt_mul hpos (by omega)
    omega

/-- The step stays between 0 and the distance to the reading, for every shift but 0. -/
theorem shift_step_between {k : Nat} (hk : k ≠ 0) (d : Int) :
    min 0 d ≤ (d + 2 ^ (k - 1)) / 2 ^ k ∧ (d + 2 ^ (k - 1)) / 2 ^ k ≤ max 0 d := by
  have double : (2 : Int) ^ k = 2 * 2 ^ (k - 1) := (mul_pow_sub_one hk 2).symm
  rw [double]
  exact div_half_added_between (by positivity) d

/-- The step never takes the value below 0, so the formula of R33 holds over the integers. -/
theorem filterStep_eq {k : Nat} (hk : k ≠ 0) (p f : Nat) :
    (filterStep k p f : Int) = f + ((p : Int) - f + 2 ^ (k - 1)) / 2 ^ k := by
  obtain ⟨lower, -⟩ := shift_step_between hk ((p : Int) - f)
  exact Int.toNat_of_nonneg (by omega)

theorem filterStep_between {k : Nat} (hk : k ≠ 0) (p f : Nat) :
    min f p ≤ filterStep k p f ∧ filterStep k p f ≤ max f p := by
  have value := filterStep_eq hk p f
  obtain ⟨lower, upper⟩ := shift_step_between hk ((p : Int) - f)
  omega

/-- The formula with the numerals of the default shift, for the rule's own figures. -/
theorem filterStep_three (p f : Nat) : (filterStep 3 p f : Int) = f + ((p : Int) - f + 4) / 8 :=
  filterStep_eq (by decide) p f

/-- The dead band of the default shift: 3 below the reading to 4 above it. -/
theorem filterStep_three_eq_self_iff (p f : Nat) : filterStep 3 p f = f ↔ f ≤ p + 4 ∧ p ≤ f + 3 := by
  have value := filterStep_three p f
  omega

theorem filterStep_three_rise (f : Nat) : filterStep 3 (f + 100) f = f + 13 := by
  have value := filterStep_three (f + 100) f
  omega

theorem filterStep_three_fall (p : Nat) : filterStep 3 p (p + 100) + 12 = p + 100 := by
  have value := filterStep_three p (p + 100)
  omega

/-- Settles O14: the steps after the filter leave its value alone, so the cases are those of `nextFiltered`. -/
theorem shiftFilter : Obligations.ShiftFilter := by
  intro c fault x q r
  simp only [sample_filtered]
  refine ⟨?unread, ?taken, ?filtered⟩
  case unread =>
    rintro rfl
    exact nextFiltered_none _ _
  case taken =>
    rintro p rfl first
    exact nextFiltered_takes_reading first p
  case filtered =>
    intro p f hx hf hk
    obtain ⟨above, below⟩ := filterStep_between hk p f
    refine ⟨filterStep c.filterShift p f, ?_, filterStep_eq hk p f, above, below, fun three => ?_⟩
    · rw [hx, hf, nextFiltered_filters hk]
    · rw [three]
      refine ⟨filterStep_three_eq_self_iff p f, ?_, ?_, ?_⟩
      · rintro rfl
        exact filterStep_three_rise f
      · rintro rfl
        exact filterStep_three_fall p
      · rintro rfl rfl
        exact filterStep_three_rise 33000

end Sys2Proof.Machine
end

section
/-! The Envelope Unit (chapter 4): how the stored limits move at a computation (R74 to R76), and which falls of the
effective limits raise ENVELOPE (R80). -/

namespace Sys2Proof.Machine
open Sys2Proof.Safety

/-! ## The zeroing conditions (R76) -/

theorem beyondPreAlarm_iff (z : ZoneState) : z.beyondPreAlarm = true ↔ BeyondPreAlarm z := by
  cases z <;> simp [ZoneState.beyondPreAlarm, BeyondPreAlarm]

theorem PerZone.any_toList_iff {α : Type} (f : PerZone α) (q : α → Bool) :
    f.toList.any q = true ↔ ∃ z, q (f.get z) = true := by
  constructor
  · intro h
    obtain ⟨x, hx, hq⟩ := List.any_eq_true.1 h
    have member : x = f.get .z1 ∨ x = f.get .z2 ∨ x = f.get .z3 ∨ x = f.get .z4 := by
      simpa [PerZone.toList, PerZone.get] using hx
    rcases member with rfl | rfl | rfl | rfl
    exacts [⟨.z1, hq⟩, ⟨.z2, hq⟩, ⟨.z3, hq⟩, ⟨.z4, hq⟩]
  · rintro ⟨z, hz⟩
    refine List.any_eq_true.2 ⟨f.get z, ?_, hz⟩
    cases z <;> simp [PerZone.toList, PerZone.get]

/-- `ZeroingHolds`, as the statements say it, is the machine's own test. -/
theorem zeroing_iff (s : State) : zeroing s = true ↔ ZeroingHolds s := by
  simp only [zeroing, ZeroingHolds, Bool.or_eq_true, bne_iff_ne, beq_iff_eq, PerZone.any_toList_iff,
    beyondPreAlarm_iff, or_assoc, State.zone]

/-! ## The stored limits (R74, R75) -/

theorem nextStored_full_of_target_le {target stored : Nat} (h : target ≤ stored) (step : Nat) :
    nextStored true step target stored = target := by
  simp [nextStored, h]

theorem nextStored_full_of_lt_target {target stored : Nat} (h : stored < target) (step : Nat) :
    nextStored true step target stored = min target (stored + step) := by
  simp [nextStored, Nat.not_le.2 h]

@[simp] theorem nextStored_decrease (step target stored : Nat) :
    nextStored false step target stored = min stored target := rfl

theorem nextStored_le_target (full : Bool) (step target stored : Nat) :
    nextStored full step target stored ≤ target := by
  cases full with
  | false => exact Nat.min_le_right _ _
  | true =>
    rcases Nat.lt_or_ge stored target with below | above
    · rw [nextStored_full_of_lt_target below]
      exact Nat.min_le_left _ _
    · exact (nextStored_full_of_target_le above step).le

/-- The stored limit that a computation of state `s` gives for a target, with the zeroing of R76. -/
def storedAfter (full : Bool) (s : State) (target stored : Nat) : Nat :=
  if zeroing s then 0 else nextStored full (rampStep s.settings) target stored

theorem storedAfter_of_zeroing {s : State} (h : ZeroingHolds s) (full : Bool) (target stored : Nat) :
    storedAfter full s target stored = 0 := by
  simp [storedAfter, (zeroing_iff s).2 h]

theorem storedAfter_of_not_zeroing {s : State} (h : ¬ ZeroingHolds s) (full : Bool) (target stored : Nat) :
    storedAfter full s target stored = nextStored full (rampStep s.settings) target stored := by
  simp [storedAfter, zeroing_iff, h]

theorem storedAfter_le_target (full : Bool) (s : State) (target stored : Nat) :
    storedAfter full s target stored ≤ target := by
  by_cases h : ZeroingHolds s
  · rw [storedAfter_of_zeroing h]
    exact Nat.zero_le _
  · rw [storedAfter_of_not_zeroing h]
    exact nextStored_le_target _ _ _ _

/-- The zone cap of 0 (R72) takes the effective charge limit to 0 and leaves the stored one on its ramp. -/
theorem compute_charge_stored (full : Bool) (s : State) :
    (compute full s).envelope.charge.stored
      = storedAfter full s (compute full s).envelope.charge.target s.envelope.charge.stored := by
  rw [compute_full]
  dsimp only [nextEnvelope]
  split <;> rfl

theorem compute_discharge_stored (full : Bool) (s : State) :
    (compute full s).envelope.discharge.stored
      = storedAfter full s (compute full s).envelope.discharge.target s.envelope.discharge.stored := by
  rw [compute_full]
  rfl

/-- Settles O23: a stored limit is `storedAfter` its target, so each clause is a case of `nextStored`. -/
theorem storedLimits : Obligations.StoredLimits := by
  intro s step full less follows
  have side (old new less : EnvelopeSide) (hnew : new.stored = storedAfter true s new.target old.stored)
      (hless : less.stored = storedAfter false s less.target old.stored) :
      follows (ZeroingHolds s) old new less := by
    refine ⟨fun zeroed => ⟨?_, ?_⟩, fun runs above => ?_, fun runs below => ?_, fun runs => ?_, ?_, ?_⟩
    · rw [hnew, storedAfter_of_zeroing zeroed]
    · rw [hless, storedAfter_of_zeroing zeroed]
    · rw [hnew, storedAfter_of_not_zeroing runs, nextStored_full_of_target_le above]
    · rw [hnew, storedAfter_of_not_zeroing runs, nextStored_full_of_lt_target below]
      rfl
    · rw [hless, storedAfter_of_not_zeroing runs, nextStored_decrease]
    · exact hnew.trans_le (storedAfter_le_target _ _ _ _)
    · exact hless.trans_le (storedAfter_le_target _ _ _ _)
  refine ⟨side _ _ _ (compute_charge_stored true s) (compute_charge_stored false s),
    side _ _ _ (compute_discharge_stored true s) (compute_discharge_stored false s), fun rate period => ?_⟩
  simp [step, rate, period]

/-! ## The ENVELOPE notice (R80) -/

theorem largeFall_iff (rated before after : Nat) :
    largeFall rated before after = true
      ↔ (0 < before ∧ after = 0) ∨ (after < before ∧ rated < 8 * (before - after)) := by
  simp [largeFall]

theorem not_largeFall_of_le {before after : Nat} (h : before ≤ after) (rated : Nat) :
    ¬ largeFall rated before after = true := by
  rw [largeFall_iff]
  omega

/-- While the limit stays above 0, only a fall by more than an eighth of the rated current is large. -/
theorem largeFall_eighth_iff {after : Nat} (h : 0 < after) (eighth before : Nat) :
    largeFall (8 * eighth) before after = true ↔ after + eighth < before := by
  rw [largeFall_iff]
  omega

/-- A direction's effective limit falls far enough at a computation to raise ENVELOPE. -/
def computeFalls (full : Bool) (s : State) : Bool :=
  let n := (compute full s).envelope
  largeFall s.settings.envelope.ratedCharge s.envelope.charge.effective n.charge.effective
    || largeFall s.settings.envelope.ratedDischarge s.envelope.discharge.effective n.discharge.effective

theorem compute_port (full : Bool) (s : State) (p : PortId) :
    (compute full s).port p = if computeFalls full s then (s.port p).raise .envelope else s.port p := by
  simp only [computeFalls, compute_full]
  dsimp only [compute]
  split
  · exact raise_port _ _ p
  · rfl

/-- Settles O25: at a large fall of either limit `compute` raises ENVELOPE, and else it leaves the ports alone. -/
theorem envelopeNotice : Obligations.EnvelopeNotice := by
  intro full s t falls meets
  have hmeets : computeFalls full s = true ↔ meets :=
    Bool.or_eq_true_iff.trans (or_congr (largeFall_iff _ _ _) (largeFall_iff _ _ _))
  refine ⟨fun p n => ?_, fun charge discharge => ?_, fun rated a b hb => ?_, fun rated a b hb => ?_⟩
  · rw [← hmeets, compute_port]
    split
    case isTrue h => simp [inSet_raise, h]
    case isFalse h => simp [h]
  · rw [← hmeets, computeFalls, Bool.or_eq_true]
    exact not_or.2 ⟨not_largeFall_of_le charge _, not_largeFall_of_le discharge _⟩
  · rw [rated]
    exact (largeFall_iff 2800 a b).symm.trans (largeFall_eighth_iff hb 350 a)
  · rw [rated]
    exact (largeFall_iff 3200 a b).symm.trans (largeFall_eighth_iff hb 400 a)

end Sys2Proof.Machine
end
